-- ==== Sys2Proof/Word.lean ====
section
/-! DEFINITION. The word types of the block (R8): bytes, 16-bit fields, 32-bit words, 4-bit counters. -/

namespace Sys2Proof

/-- A byte: 8 bits, unsigned (R8). -/
abbrev Byte := BitVec 8

/-- A nibble: 4 bits (R8); the width of every length and index register (R20). -/
abbrev Nibble := BitVec 4

/-- A 16-bit field: the button mask and the duration (R98, R99). -/
abbrev Half := BitVec 16

/-- A 32-bit word: the CRC accumulator and the reported counters (R21, R33). -/
abbrev Word := BitVec 32

/-- A payload buffer of 15 bytes, `req_buf` or `rx_buf` (R22, R23). -/
abbrev Buf := Vector Byte 15

end Sys2Proof
end

