-- ==== Sys2Proof/Config.lean ====
section
/-! DEFINITION. What is fixed for this hardware (R6): the parameters GBS prints; the names and the tables of the OPEN
parameters (U14), which the model takes as an argument, `Params`. Their defaults and the general-knowledge parameters (opcode
bytes, CRC variant, trailer) are in Machine/Params.lean; the configuration function `HEADING` (R259, D24) is
`Machine.HeadingFunction`. -/

namespace Sys2Proof

/-- The nine hat directions (R101). -/
inductive Direction where
  | up | upRight | right | downRight | down | downLeft | left | upLeft | center
  deriving DecidableEq, Repr

/-- The reply classes (R104). -/
inductive ReplyClass where
  | alive | status | state
  deriving DecidableEq, Repr

/-- The operand shapes a typed command can have (R97); the forms with a duration belong to the shape (R98, D14). The raw path
is no shape of a typed command (R239). -/
inductive Shape where
  | empty | btn | stk | hat | msec | all
  deriving DecidableEq, Repr

/-- `SHAPE` of the 16 opcodes whose shape is not GBS's by role (R103, D10, D11), in the catalog's order without `T`, `Q` and
`C`, whose shape is not open. -/
structure ShapeTable where
  debug : Shape
  getUsbOutData : Shape
  setAll : Shape
  setButtons : Shape
  setLeftJoy : Shape
  setRightJoy : Shape
  setHat : Shape
  unsetAll : Shape
  setDownMsec : Shape
  pressAll : Shape
  pressButtons : Shape
  moveLeftJoy : Shape
  moveRightJoy : Shape
  pressHat : Shape
  pauseMsec : Shape
  reportPending : Shape
  deriving DecidableEq, Repr

/-- `HAT_CODE` (R101, D13): the byte of each direction, in R101's order, nine values. -/
structure HatTable where
  codes : Vector Byte 9
  distinct : codes.toList.Nodup
  deriving DecidableEq, Repr

/-- `REPLY_CLASS` of the 17 opcodes whose class GBS does not give (R106, D12), in the catalog's order without `T` and `Q`. -/
structure ClassTable where
  debug : ReplyClass
  getUsbOutData : ReplyClass
  setAll : ReplyClass
  setButtons : ReplyClass
  setLeftJoy : ReplyClass
  setRightJoy : ReplyClass
  setHat : ReplyClass
  unsetAll : ReplyClass
  setDownMsec : ReplyClass
  pressAll : ReplyClass
  pressButtons : ReplyClass
  moveLeftJoy : ReplyClass
  moveRightJoy : ReplyClass
  pressHat : ReplyClass
  clearState : ReplyClass
  pauseMsec : ReplyClass
  reportPending : ReplyClass
  deriving DecidableEq, Repr

/-- The OPEN parameters (U14), an argument of the encoder, the decoder and, in State, of the machine. -/
structure Params where
  /-- `SHAPE` (R103). -/
  shapes : ShapeTable
  /-- `HAT_CODE` (R101). -/
  hat : HatTable
  /-- `REPLY_CLASS` (R106). -/
  classes : ClassTable
  /-- `STATUS_BASE` (R105, D8): such that the ten status codes are bytes. -/
  statusBase : Fin 247
  deriving DecidableEq, Repr

namespace Config

/-- `START`, the start-marker byte (R6). -/
def startMarker : Byte := 0x50

/-- `END`, the end-marker byte (R6). -/
def endMarker : Byte := 0x45

/-- `LEN_MASK`, the length-byte XOR mask (R6). -/
def lenMask : Byte := 0xF0

/-- `MAX_PAYLOAD`, the largest frame payload in bytes (R6). -/
def maxPayload : Nat := 15

/-- `MAX_ATTEMPTS`, the send and await cycles of one transaction (R6), at the width of `attempt`. -/
def maxAttempts : BitVec 2 := 3

/-- `STATE_REPLY_LEN`, the length of the status-query reply in bytes (R6). -/
def stateReplyLen : Nat := 14

/-- `AXIS_MIN` (R6). -/
def axisMin : Int := 0

/-- `AXIS_CENTER` (R6). -/
def axisCenter : Int := 128

/-- `AXIS_MAX` (R6). -/
def axisMax : Int := 255

end Config

end Sys2Proof
end

