-- ==== Sys2Proof/Machine/Params.lean ====
section
/-! DEFINITION. The parameters the spec fixes by decision or from general knowledge (D1, G1 to G4): the CRC-32 constants, the
opcode bytes, `ALIVE`, `TRAILER`; and the OPEN parameters `SHAPE`, `HAT_CODE`, `REPLY_CLASS`, `STATUS_BASE` as functions of
`Params`, with their defaults. Logs 11, 12, 22. -/

namespace Sys2Proof.Machine

/-- The reflected polynomial of the CRC-32 (R130; D1). -/
def crcPoly : Word := 0xEDB88320

/-- The initial value of the CRC-32 (R130; D1). -/
def crcInitial : Word := 0xFFFFFFFF

/-- The final XOR of the CRC-32 (R130; D1). -/
def crcFinalXor : Word := 0xFFFFFFFF

/-- `ALIVE`, the alive marker byte `A` (R6). PRESUMED: ASCII (G2). -/
def aliveMarker : Byte := 0x41

/-- The trailer's first byte, carriage return (R95). PRESUMED: ASCII (G3). -/
def trailerCr : Byte := 0x0D

/-- The trailer's second byte, line feed (R95). PRESUMED: ASCII (G3). -/
def trailerLf : Byte := 0x0A

/-! The opcode bytes of the catalog (R102). PRESUMED: ASCII (G2). -/

def opTest : Byte := 0x54
def opQueryState : Byte := 0x51
def opDebug : Byte := 0x44
def opGetUsbOutData : Byte := 0x4F
def opSetAll : Byte := 0x53
def opSetButtons : Byte := 0x42
def opSetLeftJoy : Byte := 0x4C
def opSetRightJoy : Byte := 0x52
def opSetHat : Byte := 0x48
def opUnsetAll : Byte := 0x55
def opSetDownMsec : Byte := 0x4D
def opPressAll : Byte := 0x73
def opPressButtons : Byte := 0x62
def opMoveLeftJoy : Byte := 0x6C
def opMoveRightJoy : Byte := 0x72
def opPressHat : Byte := 0x68
def opClearState : Byte := 0x43
def opPauseMsec : Byte := 0x50
def opReportPending : Byte := 0x70

/-! The OPEN parameters as functions, and their defaults (log 12). -/

/-- A direction's place in R101's table. -/
def dirIndex : Direction → Fin 9
  | .up => 0
  | .upRight => 1
  | .right => 2
  | .downRight => 3
  | .down => 4
  | .downLeft => 5
  | .left => 6
  | .upLeft => 7
  | .center => 8

/-- The nine directions in R101's order. -/
def directions : List Direction :=
  [.up, .upRight, .right, .downRight, .down, .downLeft, .left, .upLeft, .center]

/-- `HAT_CODE` of a direction (R101). -/
def hatCode (t : HatTable) (d : Direction) : Byte :=
  t.codes[dirIndex d]

/-- The direction a hat code stands for, if any. -/
def hatDirection (t : HatTable) (b : Byte) : Option Direction :=
  directions.find? fun d => hatCode t d == b

/-- `SHAPE` of an opcode (R103): `EMPTY` for `T`, `Q` and `C`, the table's for the other 16; none outside the catalog (R107). -/
def shapeOf (P : Params) (op : Byte) : Option Shape :=
  if op = opTest then some .empty
  else if op = opQueryState then some .empty
  else if op = opDebug then some P.shapes.debug
  else if op = opGetUsbOutData then some P.shapes.getUsbOutData
  else if op = opSetAll then some P.shapes.setAll
  else if op = opSetButtons then some P.shapes.setButtons
  else if op = opSetLeftJoy then some P.shapes.setLeftJoy
  else if op = opSetRightJoy then some P.shapes.setRightJoy
  else if op = opSetHat then some P.shapes.setHat
  else if op = opUnsetAll then some P.shapes.unsetAll
  else if op = opSetDownMsec then some P.shapes.setDownMsec
  else if op = opPressAll then some P.shapes.pressAll
  else if op = opPressButtons then some P.shapes.pressButtons
  else if op = opMoveLeftJoy then some P.shapes.moveLeftJoy
  else if op = opMoveRightJoy then some P.shapes.moveRightJoy
  else if op = opPressHat then some P.shapes.pressHat
  else if op = opClearState then some .empty
  else if op = opPauseMsec then some P.shapes.pauseMsec
  else if op = opReportPending then some P.shapes.reportPending
  else none

/-- `REPLY_CLASS` of an opcode (R106): `ALIVE` for `T`, `STATE` for `Q`, the table's for the other 17. No run reads it at a byte
outside the catalog (log 21). -/
def replyClass (P : Params) (op : Byte) : ReplyClass :=
  if op = opTest then .alive
  else if op = opQueryState then .state
  else if op = opDebug then P.classes.debug
  else if op = opGetUsbOutData then P.classes.getUsbOutData
  else if op = opSetAll then P.classes.setAll
  else if op = opSetButtons then P.classes.setButtons
  else if op = opSetLeftJoy then P.classes.setLeftJoy
  else if op = opSetRightJoy then P.classes.setRightJoy
  else if op = opSetHat then P.classes.setHat
  else if op = opUnsetAll then P.classes.unsetAll
  else if op = opSetDownMsec then P.classes.setDownMsec
  else if op = opPressAll then P.classes.pressAll
  else if op = opPressButtons then P.classes.pressButtons
  else if op = opMoveLeftJoy then P.classes.moveLeftJoy
  else if op = opMoveRightJoy then P.classes.moveRightJoy
  else if op = opPressHat then P.classes.pressHat
  else if op = opClearState then P.classes.clearState
  else if op = opPauseMsec then P.classes.pauseMsec
  else if op = opReportPending then P.classes.reportPending
  else .status

/-- The default of `SHAPE` for the open opcodes (R103; D10, D11). -/
def defaultShapes : ShapeTable where
  debug := .empty
  getUsbOutData := .empty
  setAll := .all
  setButtons := .btn
  setLeftJoy := .stk
  setRightJoy := .stk
  setHat := .hat
  unsetAll := .empty
  setDownMsec := .msec
  pressAll := .all
  pressButtons := .btn
  moveLeftJoy := .stk
  moveRightJoy := .stk
  pressHat := .hat
  pauseMsec := .msec
  reportPending := .empty

/-- The default of `HAT_CODE` (R101; D13). -/
def defaultHat : HatTable where
  codes := #v[0, 1, 2, 3, 4, 5, 6, 7, 8]
  distinct := by decide

/-- The default of `REPLY_CLASS` for the open opcodes (R106; D12). -/
def defaultClasses : ClassTable where
  debug := .status
  getUsbOutData := .status
  setAll := .status
  setButtons := .status
  setLeftJoy := .status
  setRightJoy := .status
  setHat := .status
  unsetAll := .status
  setDownMsec := .status
  pressAll := .status
  pressButtons := .status
  moveLeftJoy := .status
  moveRightJoy := .status
  pressHat := .status
  clearState := .status
  pauseMsec := .status
  reportPending := .status

/-- The default of every OPEN parameter (R6, U14; D8 and D10 to D13). -/
def defaultParams : Params where
  shapes := defaultShapes
  hat := defaultHat
  classes := defaultClasses
  statusBase := 0x30

end Sys2Proof.Machine
end

