-- ==== Sys2Proof/Syntax.lean ====
section
/-! DEFINITION. The instruction set: one constructor per row of spec/opcode_table.json (R102, R103, R239, R90, R281 to R283),
the ports an instruction's words are presented at, and the row's name of each constructor; and the operands and commands that
any `SHAPE` can give a typed opcode. -/

namespace Sys2Proof

/-- The operands of a typed command, one constructor per shape (R97), with the host's own arguments (R111): axes are unbounded
integers (D25), mask and duration 16-bit values (R232), directions one of nine names (R101); the optional duration makes the
`+D` form (R98). -/
inductive Operands where
  | empty
  | btn (mask : Half) (msec : Option Half)
  | stk (axisX axisY : Int) (msec : Option Half)
  | hat (dir : Direction) (msec : Option Half)
  | msec (msec : Half)
  | all (mask : Half) (leftX leftY rightX rightY : Int) (dir : Direction) (msec : Option Half)
  deriving DecidableEq, Repr

/-- The shape operands are of (R97). -/
def Operands.shape : Operands → Shape
  | .empty => .empty
  | .btn .. => .btn
  | .stk .. => .stk
  | .hat .. => .hat
  | .msec _ => .msec
  | .all .. => .all

/-- The operands are of a `+D` form (R97): the optional duration is there. -/
def Operands.hasDuration : Operands → Bool
  | .empty => false
  | .btn _ d => d.isSome
  | .stk _ _ d => d.isSome
  | .hat _ d => d.isSome
  | .msec _ => false
  | .all _ _ _ _ _ _ d => d.isSome

/-- A typed command as such (R38, R209): a catalog opcode byte with operands. The rows of the opcode table are the commands of
the default shapes; where `SHAPE` of an opcode is set otherwise (R103, D10, D11) its commands have no row and are of this type only. -/
structure Command where
  op : Byte
  operands : Operands
  deriving DecidableEq, Repr

/-- One constructor per row of the opcode table. A typed command carries the host's own arguments (R111): axes are
unbounded integers (D25), mask and duration 16-bit values (R232), directions one of nine names (R101). A row
is its opcode's form at the default shape (R103, D10, D11). -/
inductive Instr where
  /-- `T`, test/alive (R240). -/
  | test
  /-- `Q`, query-state (R241). -/
  | queryState
  /-- `D`, debug (R242). -/
  | debug
  /-- `O`, get-USB-out-data (R243). -/
  | getUsbOutData
  /-- `S`, set-all without duration (R244). -/
  | setAll (mask : Half) (leftX leftY rightX rightY : Int) (dir : Direction)
  /-- `S`, set-all with duration (R244). -/
  | setAllD (mask : Half) (leftX leftY rightX rightY : Int) (dir : Direction) (msec : Half)
  /-- `B`, set-buttons without duration (R245). -/
  | setButtons (mask : Half)
  /-- `B`, set-buttons with duration (R245). -/
  | setButtonsD (mask msec : Half)
  /-- `L`, set-left-joy without duration (R246). -/
  | setLeftJoy (axisX axisY : Int)
  /-- `L`, set-left-joy with duration (R246). -/
  | setLeftJoyD (axisX axisY : Int) (msec : Half)
  /-- `R`, set-right-joy without duration (R247). -/
  | setRightJoy (axisX axisY : Int)
  /-- `R`, set-right-joy with duration (R247). -/
  | setRightJoyD (axisX axisY : Int) (msec : Half)
  /-- `H`, set-hat without duration (R248). -/
  | setHat (dir : Direction)
  /-- `H`, set-hat with duration (R248). -/
  | setHatD (dir : Direction) (msec : Half)
  /-- `U`, unset-all (R249). -/
  | unsetAll
  /-- `M`, set-down-msec (R250). -/
  | setDownMsec (msec : Half)
  /-- `s`, press-all without duration (R251). -/
  | pressAll (mask : Half) (leftX leftY rightX rightY : Int) (dir : Direction)
  /-- `s`, press-all with duration (R251). -/
  | pressAllD (mask : Half) (leftX leftY rightX rightY : Int) (dir : Direction) (msec : Half)
  /-- `b`, press-buttons without duration (R252). -/
  | pressButtons (mask : Half)
  /-- `b`, press-buttons with duration (R252). -/
  | pressButtonsD (mask msec : Half)
  /-- `l`, move-left-joy without duration (R253). -/
  | moveLeftJoy (axisX axisY : Int)
  /-- `l`, move-left-joy with duration (R253). -/
  | moveLeftJoyD (axisX axisY : Int) (msec : Half)
  /-- `r`, move-right-joy without duration (R254). -/
  | moveRightJoy (axisX axisY : Int)
  /-- `r`, move-right-joy with duration (R254). -/
  | moveRightJoyD (axisX axisY : Int) (msec : Half)
  /-- `h`, press-hat without duration (R255). -/
  | pressHat (dir : Direction)
  /-- `h`, press-hat with duration (R255). -/
  | pressHatD (dir : Direction) (msec : Half)
  /-- `C`, clear-state (R256). -/
  | clearState
  /-- `P`, pause-msec (R257). -/
  | pauseMsec (msec : Half)
  /-- `p`, report-pending (R258). -/
  | reportPending
  /-- The raw form, `EXECUTE` of any bytes (R239, R190). -/
  | raw (bytes : List Byte)
  /-- A frame on the wire: payload and check byte; markers and length byte follow from R90. -/
  | frame (payload : List Byte) (check : Byte)
  /-- A reply of class `ALIVE`: any bytes; the answer is yes exactly for the one byte `A` (R281). -/
  | replyAlive (bytes : List Byte)
  /-- A reply of class `STATUS`: the code of the one byte (R282). -/
  | replyStatus (code : Nibble)
  /-- A reply of class `STATE`: the seven fields after the echoed opcode (R283). -/
  | replyState (flags head tail count : Byte) (irqCnt cmdCnt : Word) (echoCount : Byte)
  deriving DecidableEq, Repr

/-- Where an instruction's words are presented (the three layers of 30_encoding, and D2's `cmd_kind`): the typed command
port, the raw command port, the wire, or the received reply payload read under a reply class. -/
inductive Port where
  | typed | raw | wire | reply (c : ReplyClass)
  deriving DecidableEq, Repr

/-- The row of spec/opcode_table.json a constructor stands for, letter for letter. -/
def Instr.mnemonic : Instr → String
  | .test => "test"
  | .queryState => "query_state"
  | .debug => "debug"
  | .getUsbOutData => "get_usb_out_data"
  | .setAll .. => "set_all"
  | .setAllD .. => "set_all+D"
  | .setButtons .. => "set_buttons"
  | .setButtonsD .. => "set_buttons+D"
  | .setLeftJoy .. => "set_left_joy"
  | .setLeftJoyD .. => "set_left_joy+D"
  | .setRightJoy .. => "set_right_joy"
  | .setRightJoyD .. => "set_right_joy+D"
  | .setHat .. => "set_hat"
  | .setHatD .. => "set_hat+D"
  | .unsetAll => "unset_all"
  | .setDownMsec .. => "set_down_msec"
  | .pressAll .. => "press_all"
  | .pressAllD .. => "press_all+D"
  | .pressButtons .. => "press_buttons"
  | .pressButtonsD .. => "press_buttons+D"
  | .moveLeftJoy .. => "move_left_joy"
  | .moveLeftJoyD .. => "move_left_joy+D"
  | .moveRightJoy .. => "move_right_joy"
  | .moveRightJoyD .. => "move_right_joy+D"
  | .pressHat .. => "press_hat"
  | .pressHatD .. => "press_hat+D"
  | .clearState => "clear_state"
  | .pauseMsec .. => "pause_msec"
  | .reportPending => "report_pending"
  | .raw .. => "raw"
  | .frame .. => "frame"
  | .replyAlive .. => "reply.alive"
  | .replyStatus .. => "reply.status"
  | .replyState .. => "reply.state"

end Sys2Proof
end

