-- ==== Sys2Proof/Machine/Operands.lean ====
section
/-! DEFINITION. The operand forms: the field packers (R231, R232, R285), the shape builders (R233 to R238), the heading
transform (R259, R260) and the monitoring functions (R287, R288). All are pure. -/

namespace Sys2Proof.Machine

/-- `CLAMP` (R231): saturates to 0 or 255. -/
def clamp (v : Int) : Byte :=
  if v < Config.axisMin then BitVec.ofInt 8 Config.axisMin
  else if v > Config.axisMax then BitVec.ofInt 8 Config.axisMax
  else BitVec.ofInt 8 v

/-- `BE16` (R232): the most significant byte first. -/
def be16 (v : Half) : List Byte :=
  [v.extractLsb' 8 8, v.extractLsb' 0 8]

/-- The inverse of `BE16` (R9). -/
def ube16 (hi lo : Byte) : Half :=
  hi ++ lo

/-- `BE32` (R9). -/
def be32 (v : Word) : List Byte :=
  [v.extractLsb' 24 8, v.extractLsb' 16 8, v.extractLsb' 8 8, v.extractLsb' 0 8]

/-- `UBE32` (R285). -/
def ube32 (b0 b1 b2 b3 : Byte) : Word :=
  b0 ++ b1 ++ b2 ++ b3

/-- The optional duration of a `+D` form: absent gives no byte (R98). -/
def durationBytes : Option Half → List Byte
  | none => []
  | some d => be16 d

/-- `BUILD_EMPTY` (R233). -/
def buildEmpty (op : Byte) : List Byte :=
  [op]

/-- `BUILD_BTN` (R234). -/
def buildBtn (op : Byte) (mask : Half) (msec : Option Half) : List Byte :=
  op :: (be16 mask ++ durationBytes msec)

/-- `BUILD_STK` (R235): `x` before `y`, each clamped. -/
def buildStk (op : Byte) (axisX axisY : Int) (msec : Option Half) : List Byte :=
  op :: clamp axisX :: clamp axisY :: durationBytes msec

/-- `BUILD_HAT` (R236). -/
def buildHat (t : HatTable) (op : Byte) (dir : Direction) (msec : Option Half) : List Byte :=
  op :: hatCode t dir :: durationBytes msec

/-- `BUILD_MSEC` (R237). -/
def buildMsec (op : Byte) (msec : Half) : List Byte :=
  op :: be16 msec

/-- `BUILD_ALL` (R238): mask, left stick, right stick, hat, duration. -/
def buildAll (t : HatTable) (op : Byte) (mask : Half) (leftX leftY rightX rightY : Int) (dir : Direction)
    (msec : Option Half) : List Byte :=
  op :: (be16 mask ++
    [clamp leftX, clamp leftY, clamp rightX, clamp rightY, hatCode t dir] ++ durationBytes msec)

/-- `BUILD` of a command: the builder of the operands' shape (R209 line 2, R233 to R238). -/
def build (t : HatTable) (c : Command) : List Byte :=
  match c.operands with
  | .empty => buildEmpty c.op
  | .btn mask d => buildBtn c.op mask d
  | .stk x y d => buildStk c.op x y d
  | .hat dir d => buildHat t c.op dir d
  | .msec d => buildMsec c.op d
  | .all mask lx ly rx ry dir d => buildAll t c.op mask lx ly rx ry dir d

/-! ### Rows and commands -/

/-- The command a typed row of the opcode table is (R240 to R258); no other row is one. -/
def commandOf : Instr → Option Command
  | .test => some ⟨opTest, .empty⟩
  | .queryState => some ⟨opQueryState, .empty⟩
  | .debug => some ⟨opDebug, .empty⟩
  | .getUsbOutData => some ⟨opGetUsbOutData, .empty⟩
  | .setAll m lx ly rx ry d => some ⟨opSetAll, .all m lx ly rx ry d none⟩
  | .setAllD m lx ly rx ry d t => some ⟨opSetAll, .all m lx ly rx ry d (some t)⟩
  | .setButtons m => some ⟨opSetButtons, .btn m none⟩
  | .setButtonsD m t => some ⟨opSetButtons, .btn m (some t)⟩
  | .setLeftJoy x y => some ⟨opSetLeftJoy, .stk x y none⟩
  | .setLeftJoyD x y t => some ⟨opSetLeftJoy, .stk x y (some t)⟩
  | .setRightJoy x y => some ⟨opSetRightJoy, .stk x y none⟩
  | .setRightJoyD x y t => some ⟨opSetRightJoy, .stk x y (some t)⟩
  | .setHat d => some ⟨opSetHat, .hat d none⟩
  | .setHatD d t => some ⟨opSetHat, .hat d (some t)⟩
  | .unsetAll => some ⟨opUnsetAll, .empty⟩
  | .setDownMsec t => some ⟨opSetDownMsec, .msec t⟩
  | .pressAll m lx ly rx ry d => some ⟨opPressAll, .all m lx ly rx ry d none⟩
  | .pressAllD m lx ly rx ry d t => some ⟨opPressAll, .all m lx ly rx ry d (some t)⟩
  | .pressButtons m => some ⟨opPressButtons, .btn m none⟩
  | .pressButtonsD m t => some ⟨opPressButtons, .btn m (some t)⟩
  | .moveLeftJoy x y => some ⟨opMoveLeftJoy, .stk x y none⟩
  | .moveLeftJoyD x y t => some ⟨opMoveLeftJoy, .stk x y (some t)⟩
  | .moveRightJoy x y => some ⟨opMoveRightJoy, .stk x y none⟩
  | .moveRightJoyD x y t => some ⟨opMoveRightJoy, .stk x y (some t)⟩
  | .pressHat d => some ⟨opPressHat, .hat d none⟩
  | .pressHatD d t => some ⟨opPressHat, .hat d (some t)⟩
  | .clearState => some ⟨opClearState, .empty⟩
  | .pauseMsec t => some ⟨opPauseMsec, .msec t⟩
  | .reportPending => some ⟨opReportPending, .empty⟩
  | .raw _ | .frame _ _ | .replyAlive _ | .replyStatus _ | .replyState .. => none

/-- The row a command without operands is, if any. -/
def rowOfEmpty (op : Byte) : Option Instr :=
  if op = opTest then some .test
  else if op = opQueryState then some .queryState
  else if op = opDebug then some .debug
  else if op = opGetUsbOutData then some .getUsbOutData
  else if op = opUnsetAll then some .unsetAll
  else if op = opClearState then some .clearState
  else if op = opReportPending then some .reportPending
  else none

/-- The row a button command is, if any. -/
def rowOfBtn (op : Byte) (mask : Half) : Option Half → Option Instr
  | none =>
    if op = opSetButtons then some (.setButtons mask)
    else if op = opPressButtons then some (.pressButtons mask)
    else none
  | some d =>
    if op = opSetButtons then some (.setButtonsD mask d)
    else if op = opPressButtons then some (.pressButtonsD mask d)
    else none

/-- The row a stick command is, if any. -/
def rowOfStk (op : Byte) (x y : Int) : Option Half → Option Instr
  | none =>
    if op = opSetLeftJoy then some (.setLeftJoy x y)
    else if op = opSetRightJoy then some (.setRightJoy x y)
    else if op = opMoveLeftJoy then some (.moveLeftJoy x y)
    else if op = opMoveRightJoy then some (.moveRightJoy x y)
    else none
  | some d =>
    if op = opSetLeftJoy then some (.setLeftJoyD x y d)
    else if op = opSetRightJoy then some (.setRightJoyD x y d)
    else if op = opMoveLeftJoy then some (.moveLeftJoyD x y d)
    else if op = opMoveRightJoy then some (.moveRightJoyD x y d)
    else none

/-- The row a hat command is, if any. -/
def rowOfHat (op : Byte) (dir : Direction) : Option Half → Option Instr
  | none =>
    if op = opSetHat then some (.setHat dir)
    else if op = opPressHat then some (.pressHat dir)
    else none
  | some d =>
    if op = opSetHat then some (.setHatD dir d)
    else if op = opPressHat then some (.pressHatD dir d)
    else none

/-- The row a duration command is, if any. -/
def rowOfMsec (op : Byte) (d : Half) : Option Instr :=
  if op = opSetDownMsec then some (.setDownMsec d)
  else if op = opPauseMsec then some (.pauseMsec d)
  else none

/-- The row a whole-pad command is, if any. -/
def rowOfAll (op : Byte) (mask : Half) (leftX leftY rightX rightY : Int) (dir : Direction) : Option Half → Option Instr
  | none =>
    if op = opSetAll then some (.setAll mask leftX leftY rightX rightY dir)
    else if op = opPressAll then some (.pressAll mask leftX leftY rightX rightY dir)
    else none
  | some d =>
    if op = opSetAll then some (.setAllD mask leftX leftY rightX rightY dir d)
    else if op = opPressAll then some (.pressAllD mask leftX leftY rightX rightY dir d)
    else none

/-- The row of the opcode table a command is: by its opcode byte and the form of its operands (R102, R103). A command of a shape
that is not the opcode's default has none. -/
def rowOf (c : Command) : Option Instr :=
  match c.operands with
  | .empty => rowOfEmpty c.op
  | .btn mask d => rowOfBtn c.op mask d
  | .stk x y d => rowOfStk c.op x y d
  | .hat dir d => rowOfHat c.op dir d
  | .msec d => rowOfMsec c.op d
  | .all mask lx ly rx ry dir d => rowOfAll c.op mask lx ly rx ry dir d

/-! ### The heading transform -/

/-- R259's constraint `ROUND(t) = n`: `|n - t| <= 1/2 + HEADING_EPS`, with `HEADING_EPS = 2^-40` (R6). -/
def RoundsTo (t : ℝ) (n : Int) : Prop :=
  |(n : ℝ) - t| ≤ 1 / 2 + (1 / 2) ^ 40

/-- R259: `(axisX, axisY)` is a result the rule admits for `HEADING(heading, extent)`, before `CLAMP`. For most operands one
pair is admitted; near a tie of `ROUND` two values of an axis are. -/
def HeadingAdmits (heading extent : ℝ) (axisX axisY : Int) : Prop :=
  RoundsTo (Real.sin (heading * Real.pi / 180) * extent * 127) (axisX - 128) ∧
  RoundsTo (Real.cos (heading * Real.pi / 180) * extent * 127) (128 - axisY)

/-- `HEADING`, the model's configuration function (R259, D24): one pair of integers for every heading and extent, real numbers
both, with R259's constraint as its only assumed property. The model takes it as an argument; no claim may know more of it. -/
structure HeadingFunction where
  axes : ℝ → ℝ → Int × Int
  admitted : ∀ heading extent, HeadingAdmits heading extent (axes heading extent).1 (axes heading extent).2

/-- The stick commands that have a heading form (R112, R260). -/
inductive HeadingStick where
  | moveLeft | moveRight | setLeft | setRight
  deriving DecidableEq, Repr

/-- A heading pseudo-instruction is the stick command with the axes `HEADING` gives (R260). -/
def headingInstr (H : HeadingFunction) (k : HeadingStick) (heading extent : ℝ) (msec : Option Half) : Instr :=
  let axes := H.axes heading extent
  match k, msec with
  | .moveLeft, none => .moveLeftJoy axes.1 axes.2
  | .moveLeft, some t => .moveLeftJoyD axes.1 axes.2 t
  | .moveRight, none => .moveRightJoy axes.1 axes.2
  | .moveRight, some t => .moveRightJoyD axes.1 axes.2 t
  | .setLeft, none => .setLeftJoy axes.1 axes.2
  | .setLeft, some t => .setLeftJoyD axes.1 axes.2 t
  | .setRight, none => .setRightJoy axes.1 axes.2
  | .setRight, some t => .setRightJoyD axes.1 axes.2 t

/-! ### Monitoring -/

/-- `DELTA` (R287): the unsigned 32-bit difference. -/
def delta (c1 c2 : Word) : Word :=
  if c1.toNat ≤ c2.toNat then BitVec.ofNat 32 (c2.toNat - c1.toNat)
  else BitVec.ofNat 32 (c2.toNat + 2 ^ 32 - c1.toNat)

/-- `RATE` (R288; D26): the exact rational for `seconds > 0`; any other value is refused. -/
def rate (c1 c2 : Word) (seconds : Rat) : Option Rat :=
  if 0 < seconds then some (((delta c1 c2).toNat : Rat) / seconds) else none

end Sys2Proof.Machine
end

