-- ==== Sys2Proof/Machine/Crc.lean ====
section
/-! DEFINITION. The checksum generator (40_crc.md) as functions of the accumulator and of byte sequences. -/

namespace Sys2Proof.Machine

/-- One shift step of R132's loop. -/
def crcShift (a : Word) : Word :=
  if a.getLsbD 0 then (a >>> 1) ^^^ crcPoly else a >>> 1

/-- R132's loop, `n` times. -/
def crcShifts : Nat → Word → Word
  | 0, a => a
  | n + 1, a => crcShifts n (crcShift a)

/-- `CRC_UPDATE` of one byte, the new accumulator (R132). -/
def crcUpdate (acc : Word) (b : Byte) : Word :=
  crcShifts 8 (acc ^^^ b.setWidth 32)

/-- `CRC_FINAL` of the accumulator (R133). -/
def crcFinal (acc : Word) : Word :=
  acc ^^^ crcFinalXor

/-- The check byte of the accumulator: `CRC_FINAL[7:0]` (R133). -/
def crcCheck (acc : Word) : Byte :=
  (crcFinal acc).setWidth 8

/-- The accumulator after `CRC_UPDATE` over the bytes in order. -/
def crcFold (acc : Word) (p : List Byte) : Word :=
  p.foldl crcUpdate acc

/-- `CRC32` of a byte sequence (R133). -/
def crc32 (p : List Byte) : Word :=
  crcFinal (crcFold crcInitial p)

/-- `CHK8` of a byte sequence: the low byte of `CRC32` (R130, R133). -/
def chk8 (p : List Byte) : Byte :=
  crcCheck (crcFold crcInitial p)

end Sys2Proof.Machine
end

