-- ==== Sys2Proof/Machine/Codec.lean ====
section
/-! DEFINITION. The frame format as functions: the length byte (R91, R92), `ENCODE` (R150), the bytes of one attempt (R194),
`DECODE` on a list of answers (R165) and `EXEC` (R212). The byte-serial machines are in Machine/Encoder.lean and
Machine/Decoder.lean. -/

namespace Sys2Proof.Machine

/-- An answer to `RxTake` (R61). -/
inductive RxAnswer where
  | byte (b : Byte)
  | timeout
  | fault
  deriving DecidableEq, Repr

/-- An answer to `TxPut`, `open` or a buffer reset (R62, R329). -/
inductive LineAnswer where
  | ok
  | fault
  deriving DecidableEq, Repr

/-- The length byte of a length (R91): the length in both nibbles, then the mask. -/
def lenByte (n : Nibble) : Byte :=
  (n.setWidth 8 ||| (n.setWidth 8 <<< 4)) ^^^ Config.lenMask

/-- The length a received length byte gives, if it is legal (R92). -/
def lenOfByte (lb : Byte) : Option Nibble :=
  let u := lb ^^^ Config.lenMask
  if u.extractLsb' 4 4 = u.extractLsb' 0 4 then some (u.extractLsb' 0 4) else none

/-- The bytes of a frame with the given check byte (R90). -/
def frameBytes (p : List Byte) (check : Byte) : List Byte :=
  [Config.startMarker, lenByte (BitVec.ofNat 4 p.length)] ++ p ++ [check, Config.endMarker]

/-- `ENCODE` (R150), for `len(p) <= 15`. -/
def encodeFrame (p : List Byte) : List Byte :=
  frameBytes p (chk8 p)

/-- What one attempt puts on the TX stream: the frame and the trailer (R194). -/
def sentBytes (p : List Byte) : List Byte :=
  encodeFrame p ++ [trailerCr, trailerLf]

/-- The errors of `DECODE` (R154). -/
inductive DecodeError where
  | framingLen | framingEnd | integrity | readTimeout | transport
  deriving DecidableEq, Repr

/-- The result of `DECODE` on a list of answers (R165): a result and the unconsumed rest, or waiting. -/
inductive DecodeResult where
  | waiting
  | ok (p : List Byte) (rest : List RxAnswer)
  | error (e : DecodeError) (rest : List RxAnswer)
  deriving DecidableEq, Repr

/-- R165's `take`: consumes one answer and goes on with the byte. -/
def takeByte (a : List RxAnswer) (k : Byte → List RxAnswer → DecodeResult) : DecodeResult :=
  match a with
  | [] => .waiting
  | .fault :: r => .error .transport r
  | .timeout :: r => .error .readTimeout r
  | .byte b :: r => k b r

/-- R165's `body`, with `n` payload bytes still to come after the payload `p` so far. -/
def decodeBody : Nat → List Byte → List RxAnswer → DecodeResult
  | n + 1, p, a => takeByte a fun b r => decodeBody n (p ++ [b]) r
  | 0, p, a =>
    takeByte a fun c r =>
      takeByte r fun t r2 =>
        if t ≠ Config.endMarker then .error .framingEnd r2
        else if c ≠ chk8 p then .error .integrity r2
        else .ok p r2

/-- R165's `lenb`. -/
def decodeLen (a : List RxAnswer) : DecodeResult :=
  takeByte a fun lb r =>
    match lenOfByte lb with
    | none => .error .framingLen r
    | some n => decodeBody n.toNat [] r

/-- `DECODE` on a list of answers: R165's `hunt`. -/
def decodeAnswers : List RxAnswer → DecodeResult
  | [] => .waiting
  | .fault :: r => .error .transport r
  | .timeout :: r => .error .readTimeout r
  | .byte b :: r => if b = Config.startMarker then decodeLen r else decodeAnswers r

/-- Each byte as an answer: R166's `bytes`. -/
def byteAnswers (p : List Byte) : List RxAnswer :=
  p.map .byte

/-- The result of `EXEC` (R212). -/
inductive ExecResult where
  | success (q : List Byte)
  | exhausted
  | transportFatal
  | waiting
  deriving DecidableEq, Repr

/-- R212's `send`: `n` bytes to put, one answer each. `none` is waiting, which R212 leaves to the reader of R62. -/
def sendAnswers : Nat → List LineAnswer → Option (LineAnswer × List LineAnswer)
  | 0, a => some (.ok, a)
  | _ + 1, [] => none
  | _ + 1, .fault :: r => some (.fault, r)
  | n + 1, .ok :: r => sendAnswers n r

/-- R212's `try`, with `left` attempts still allowed after this one. -/
def tryAttempts : Nat → List Byte → List LineAnswer → List RxAnswer → ExecResult
  | left, p, tx, rx =>
    match sendAnswers (sentBytes p).length tx with
    | none => .waiting
    | some (.fault, _) => .transportFatal
    | some (.ok, tx') =>
      match decodeAnswers rx with
      | .waiting => .waiting
      | .error .transport _ => .transportFatal
      | .ok (b :: q) _ => .success (b :: q)
      | .ok [] rx' =>
        match left with
        | 0 => .exhausted
        | l + 1 => tryAttempts l p tx' rx'
      | .error _ rx' =>
        match left with
        | 0 => .exhausted
        | l + 1 => tryAttempts l p tx' rx'

/-- `EXEC` (R212): three attempts at most. -/
def execAnswers (p : List Byte) (tx : List LineAnswer) (rx : List RxAnswer) : ExecResult :=
  tryAttempts 2 p tx rx

end Sys2Proof.Machine
end

