-- ==== Sys2Proof/WellFormed.lean ====
section
/-! DEFINITION. Well-formed instructions and commands: those that the words of some port encode, under the parameters. A typed
command with an axis outside 0 to 255 is not well-formed in this sense and still runs: the encoder clamps it (R231). -/

namespace Sys2Proof

/-- An axis that one byte of the payload holds as it is (R100). -/
def axisInByte (v : Int) : Bool :=
  Config.axisMin ≤ v && v ≤ Config.axisMax

/-- Operands whose axes are bytes (R100). -/
def Operands.inBytes : Operands → Bool
  | .empty => true
  | .btn _ _ => true
  | .stk x y _ => axisInByte x && axisInByte y
  | .hat _ _ => true
  | .msec _ => true
  | .all _ lx ly rx ry _ _ => axisInByte lx && axisInByte ly && axisInByte rx && axisInByte ry

/-- A command of the shape `SHAPE` gives its opcode (R103); no opcode outside the catalog has one (R107). -/
def Command.ofShape (P : Params) (c : Command) : Bool :=
  Machine.shapeOf P c.op == some c.operands.shape

/-- A typed row whose shape is `SHAPE` of its opcode (R103); any other row has no shape. -/
def Instr.ofShape (P : Params) (i : Instr) : Bool :=
  match Machine.commandOf i with
  | some c => c.ofShape P
  | none => true

/-- The operands fit their fields: axes in a byte (R100), raw and frame payloads of at most 15 bytes (R90, R190), the right
check byte (R93), a status code of at most 9 (R105). -/
def Instr.inRange : Instr → Bool
  | .test => true
  | .queryState => true
  | .debug => true
  | .getUsbOutData => true
  | .setAll _ lx ly rx ry _ => axisInByte lx && axisInByte ly && axisInByte rx && axisInByte ry
  | .setAllD _ lx ly rx ry _ _ => axisInByte lx && axisInByte ly && axisInByte rx && axisInByte ry
  | .setButtons _ => true
  | .setButtonsD _ _ => true
  | .setLeftJoy x y => axisInByte x && axisInByte y
  | .setLeftJoyD x y _ => axisInByte x && axisInByte y
  | .setRightJoy x y => axisInByte x && axisInByte y
  | .setRightJoyD x y _ => axisInByte x && axisInByte y
  | .setHat _ => true
  | .setHatD _ _ => true
  | .unsetAll => true
  | .setDownMsec _ => true
  | .pressAll _ lx ly rx ry _ => axisInByte lx && axisInByte ly && axisInByte rx && axisInByte ry
  | .pressAllD _ lx ly rx ry _ _ => axisInByte lx && axisInByte ly && axisInByte rx && axisInByte ry
  | .pressButtons _ => true
  | .pressButtonsD _ _ => true
  | .moveLeftJoy x y => axisInByte x && axisInByte y
  | .moveLeftJoyD x y _ => axisInByte x && axisInByte y
  | .moveRightJoy x y => axisInByte x && axisInByte y
  | .moveRightJoyD x y _ => axisInByte x && axisInByte y
  | .pressHat _ => true
  | .pressHatD _ _ => true
  | .clearState => true
  | .pauseMsec _ => true
  | .reportPending => true
  | .raw bs => bs.length ≤ Config.maxPayload
  | .frame p c => p.length ≤ Config.maxPayload && c == Machine.chk8 p
  | .replyAlive bs => bs.length ≤ Config.maxPayload
  | .replyStatus n => n.toNat ≤ 9
  | .replyState .. => true

/-- The well-formedness check of a row: of its opcode's shape, and in range. -/
def Instr.wellFormed (P : Params) (i : Instr) : Bool :=
  i.ofShape P && i.inRange

/-- The well-formedness check of a command: of its opcode's shape, and in range. -/
def Command.wellFormed (P : Params) (c : Command) : Bool :=
  c.ofShape P && c.operands.inBytes

end Sys2Proof
end

