-- ==== Sys2Proof/Decode.lean ====
section
/-! DEFINITION. The decoder of each port under the parameters, total on any bytes and rejecting by name (R102, R103, R107, R92,
R104, R105, R286), then the encoder (a command's words are `Machine.build`), then the reading of an opcode-table word. -/

namespace Sys2Proof

open Machine

/-- Why the words of a port are not an instruction. -/
inductive Reject where
  /-- No byte at the typed port: a Command Request has at least an opcode (R96). -/
  | emptyRequest
  /-- An opcode byte outside the catalog (R107). -/
  | unknownOpcode (op : Byte)
  /-- A catalog opcode with operands of a length its `SHAPE` does not have (R103). -/
  | operandLength (op : Byte)
  /-- A typed command of the parameters that is no row of the opcode table, since its shape is not the default (R103): it runs
  as a command (log 12). -/
  | noRow (c : Command)
  /-- A direction byte that is none of the nine hat codes (R101). -/
  | unknownHatCode (b : Byte)
  /-- The wire's bytes do not begin with the start marker (R90). -/
  | noStartMarker
  /-- Fewer or more bytes than the length byte says (R90). -/
  | frameLength
  /-- An illegal length byte (R92). -/
  | framingLen
  /-- The end marker is not where the length puts it (R159). -/
  | framingEnd
  /-- The check byte is not `CHK8` of the payload (R159). -/
  | integrity
  /-- A `STATUS` reply that is not one byte (R286). -/
  | statusLength
  /-- A `STATUS` reply whose byte is no status code (R286). -/
  | statusByte
  /-- A `STATE` reply that is not 14 bytes (R286). -/
  | stateLength
  /-- A `STATE` reply that does not echo `Q` (R286). -/
  | stateEcho
  deriving DecidableEq, Repr

/-! ### The decoder -/

/-- An axis byte as the host's integer (R100). -/
def axisOf (b : Byte) : Int :=
  b.toNat

/-- A direction byte (R101), then the operands it completes. -/
def withDirection (t : HatTable) (b : Byte) (f : Direction → Operands) : Except Reject Operands :=
  match hatDirection t b with
  | some d => .ok (f d)
  | none => .error (.unknownHatCode b)

/-- Operands of shape `EMPTY` (R97). -/
def decodeEmpty (op : Byte) : List Byte → Except Reject Operands
  | [] => .ok .empty
  | _ => .error (.operandLength op)

/-- Operands of shape `BTN` or `BTN+D` (R97). -/
def decodeBtn (op : Byte) : List Byte → Except Reject Operands
  | [m1, m0] => .ok (.btn (ube16 m1 m0) none)
  | [m1, m0, d1, d0] => .ok (.btn (ube16 m1 m0) (some (ube16 d1 d0)))
  | _ => .error (.operandLength op)

/-- Operands of shape `STK` or `STK+D` (R97). -/
def decodeStk (op : Byte) : List Byte → Except Reject Operands
  | [x, y] => .ok (.stk (axisOf x) (axisOf y) none)
  | [x, y, d1, d0] => .ok (.stk (axisOf x) (axisOf y) (some (ube16 d1 d0)))
  | _ => .error (.operandLength op)

/-- Operands of shape `HAT` or `HAT+D` (R97). -/
def decodeHat (t : HatTable) (op : Byte) : List Byte → Except Reject Operands
  | [b] => withDirection t b fun dir => .hat dir none
  | [b, d1, d0] => withDirection t b fun dir => .hat dir (some (ube16 d1 d0))
  | _ => .error (.operandLength op)

/-- Operands of shape `MSEC` (R97). -/
def decodeMsec (op : Byte) : List Byte → Except Reject Operands
  | [d1, d0] => .ok (.msec (ube16 d1 d0))
  | _ => .error (.operandLength op)

/-- Operands of shape `ALL` or `ALL+D` (R97). -/
def decodeAll (t : HatTable) (op : Byte) : List Byte → Except Reject Operands
  | [m1, m0, lx, ly, rx, ry, b] =>
    withDirection t b fun dir => .all (ube16 m1 m0) (axisOf lx) (axisOf ly) (axisOf rx) (axisOf ry) dir none
  | [m1, m0, lx, ly, rx, ry, b, d1, d0] =>
    withDirection t b fun dir =>
      .all (ube16 m1 m0) (axisOf lx) (axisOf ly) (axisOf rx) (axisOf ry) dir (some (ube16 d1 d0))
  | _ => .error (.operandLength op)

/-- The operands of an opcode of a shape (R97): the form with or without duration by the length alone (R103). -/
def decodeOperands (t : HatTable) (op : Byte) (bs : List Byte) : Shape → Except Reject Operands
  | .empty => decodeEmpty op bs
  | .btn => decodeBtn op bs
  | .stk => decodeStk op bs
  | .hat => decodeHat t op bs
  | .msec => decodeMsec op bs
  | .all => decodeAll t op bs

/-- A Command Request (R96): the opcode byte alone gives the shape (R102, R103, R107). -/
def decodeCommand (P : Params) : List Byte → Except Reject Command
  | [] => .error .emptyRequest
  | op :: bs =>
    match shapeOf P op with
    | none => .error (.unknownOpcode op)
    | some sh =>
      match decodeOperands P.hat op bs sh with
      | .ok o => .ok ⟨op, o⟩
      | .error r => .error r

/-- The row of a Command Request. -/
def decodeRequest (P : Params) (bs : List Byte) : Except Reject Instr :=
  match decodeCommand P bs with
  | .error r => .error r
  | .ok c =>
    match rowOf c with
    | some i => .ok i
    | none => .error (.noRow c)

/-- The part of a frame after its length byte, `n` payload bytes long (R90, R159): the end marker before the check byte. -/
def decodeFrameBody (n : Nat) (rest : List Byte) : Except Reject Instr :=
  match rest.drop n with
  | [check, last] =>
    if last ≠ Config.endMarker then .error .framingEnd
    else if check ≠ chk8 (rest.take n) then .error .integrity
    else .ok (.frame (rest.take n) check)
  | _ => .error .frameLength

/-- The bytes on the wire as exactly one frame (R90, R92). -/
def decodeFrame : List Byte → Except Reject Instr
  | start :: lb :: rest =>
    if start ≠ Config.startMarker then .error .noStartMarker
    else
      match lenOfByte lb with
      | none => .error .framingLen
      | some n => decodeFrameBody n.toNat rest
  | [start] => if start = Config.startMarker then .error .frameLength else .error .noStartMarker
  | [] => .error .noStartMarker

/-- A `STATUS` reply (R282): length before content (R286). -/
def decodeStatusReply (P : Params) : List Byte → Except Reject Instr
  | [b] =>
    if b.toNat < P.statusBase ∨ P.statusBase + 9 < b.toNat then .error .statusByte
    else .ok (.replyStatus (BitVec.ofNat 4 (b.toNat - P.statusBase)))
  | _ => .error .statusLength

/-- A `STATE` reply (R283): length before echo (R286). -/
def decodeStateReply : List Byte → Except Reject Instr
  | [q0, q1, q2, q3, q4, q5, q6, q7, q8, q9, q10, q11, q12, q13] =>
    if q0 ≠ opQueryState then .error .stateEcho
    else .ok (.replyState q1 q2 q3 q4 (ube32 q5 q6 q7 q8) (ube32 q9 q10 q11 q12) q13)
  | _ => .error .stateLength

/-- The decoder: what the bytes presented at a port stand for. The raw port takes any bytes (R239, D38); a reply of class
`ALIVE` is an answer whatever its bytes (R281). -/
def decode (P : Params) : Port → List Byte → Except Reject Instr
  | .typed, bs => decodeRequest P bs
  | .raw, bs => .ok (.raw bs)
  | .wire, bs => decodeFrame bs
  | .reply .alive, bs => .ok (.replyAlive bs)
  | .reply .status, bs => decodeStatusReply P bs
  | .reply .state, bs => decodeStateReply bs

/-! ### The encoder -/

/-- The port an instruction's words are presented at. -/
def portOf : Instr → Port
  | .raw _ => .raw
  | .frame _ _ => .wire
  | .replyAlive _ => .reply .alive
  | .replyStatus _ => .reply .status
  | .replyState .. => .reply .state
  | .test | .queryState | .debug | .getUsbOutData | .setAll .. | .setAllD .. | .setButtons .. | .setButtonsD ..
  | .setLeftJoy .. | .setLeftJoyD .. | .setRightJoy .. | .setRightJoyD .. | .setHat .. | .setHatD .. | .unsetAll
  | .setDownMsec .. | .pressAll .. | .pressAllD .. | .pressButtons .. | .pressButtonsD .. | .moveLeftJoy ..
  | .moveLeftJoyD .. | .moveRightJoy .. | .moveRightJoyD .. | .pressHat .. | .pressHatD .. | .clearState
  | .pauseMsec .. | .reportPending => .typed

/-- The words of an instruction: `BUILD` of a typed command (R240 to R258), the bytes of a raw form (R239), the bytes of a
frame (R90), the payload of a reply (R104). -/
def encode (P : Params) : Instr → List Byte
  | .test => buildEmpty opTest
  | .queryState => buildEmpty opQueryState
  | .debug => buildEmpty opDebug
  | .getUsbOutData => buildEmpty opGetUsbOutData
  | .setAll m lx ly rx ry d => buildAll P.hat opSetAll m lx ly rx ry d none
  | .setAllD m lx ly rx ry d t => buildAll P.hat opSetAll m lx ly rx ry d (some t)
  | .setButtons m => buildBtn opSetButtons m none
  | .setButtonsD m t => buildBtn opSetButtons m (some t)
  | .setLeftJoy x y => buildStk opSetLeftJoy x y none
  | .setLeftJoyD x y t => buildStk opSetLeftJoy x y (some t)
  | .setRightJoy x y => buildStk opSetRightJoy x y none
  | .setRightJoyD x y t => buildStk opSetRightJoy x y (some t)
  | .setHat d => buildHat P.hat opSetHat d none
  | .setHatD d t => buildHat P.hat opSetHat d (some t)
  | .unsetAll => buildEmpty opUnsetAll
  | .setDownMsec t => buildMsec opSetDownMsec t
  | .pressAll m lx ly rx ry d => buildAll P.hat opPressAll m lx ly rx ry d none
  | .pressAllD m lx ly rx ry d t => buildAll P.hat opPressAll m lx ly rx ry d (some t)
  | .pressButtons m => buildBtn opPressButtons m none
  | .pressButtonsD m t => buildBtn opPressButtons m (some t)
  | .moveLeftJoy x y => buildStk opMoveLeftJoy x y none
  | .moveLeftJoyD x y t => buildStk opMoveLeftJoy x y (some t)
  | .moveRightJoy x y => buildStk opMoveRightJoy x y none
  | .moveRightJoyD x y t => buildStk opMoveRightJoy x y (some t)
  | .pressHat d => buildHat P.hat opPressHat d none
  | .pressHatD d t => buildHat P.hat opPressHat d (some t)
  | .clearState => buildEmpty opClearState
  | .pauseMsec t => buildMsec opPauseMsec t
  | .reportPending => buildEmpty opReportPending
  | .raw bs => bs
  | .frame p c => frameBytes p c
  | .replyAlive bs => bs
  | .replyStatus n => [BitVec.ofNat 8 (P.statusBase + n.toNat)]
  | .replyState f h t c irq cmd e => opQueryState :: f :: h :: t :: c :: (be32 irq ++ be32 cmd ++ [e])

/-! ### The opcode table's words, read at the default parameters -/

/-- The payload length of a shape's form without duration (R97). -/
def shapeLength : Shape → Nat
  | .empty => 1
  | .btn => 3
  | .stk => 3
  | .hat => 2
  | .msec => 3
  | .all => 8

/-- The payload length of an opcode's form without duration (R97, R103), for the zero operands a table word leaves out. -/
def plainLength (op : Byte) : Nat :=
  match shapeOf defaultParams op with
  | some sh => shapeLength sh
  | none => 1

/-- The first `n` bytes of a number, byte 0 its least significant (the table's numbering). -/
def bytesOf : Nat → Nat → List Byte
  | 0, _ => []
  | n + 1, w => BitVec.ofNat 8 w :: bytesOf n (w / 256)

/-- The bytes of a table word: as many as the table gives, and the zero operand bytes of the opcode's plain form. -/
def tableBytes (nbits w : Nat) : List Byte :=
  if nbits < 8 then [] else bytesOf (max (nbits / 8) (plainLength (BitVec.ofNat 8 w))) w

/-- The port a table word belongs to, the first that decodes: a typed command, a reply, a whole frame, else raw bytes. The
table itself does not tell its layers apart (log 15). -/
def tablePort (bs : List Byte) : Port :=
  match decode defaultParams .typed bs with
  | .ok _ => .typed
  | .error _ =>
    if bs = [aliveMarker] then .reply .alive
    else
      match decode defaultParams (.reply .status) bs, decode defaultParams (.reply .state) bs,
        decode defaultParams .wire bs with
      | .ok _, _, _ => .reply .status
      | _, .ok _, _ => .reply .state
      | _, _, .ok _ => .wire
      | _, _, _ => .raw

/-- The instruction the decoder reads from an opcode-table word. -/
def decodeTableWord (nbits w : Nat) : Option Instr :=
  let bs := tableBytes nbits w
  match decode defaultParams (tablePort bs) bs with
  | .ok i => if i.wellFormed defaultParams then some i else none
  | .error _ => none

end Sys2Proof
end

