-- ==== Sys2Proof/Machine/State.lean ====
section
/-! DEFINITION. The machine's state as plain data: every register of R20, the model's own control position, the environment
(R35, R36) and the outputs; the reasons a step can stop; the state right after reset (R39). -/

namespace Sys2Proof.Machine

/-- The error causes and refusals (R310); their numbers are `Cause.code`. -/
inductive Cause where
  | none | framingLen | framingEnd | integrity | readTimeout | emptyReply | protocolViolation | transport
  | payloadTooLong | busy | badSessionOp
  deriving DecidableEq, Repr

/-- `enc_state` (R24): which byte the encoder emits next. -/
inductive EncState where
  | idle | start | len | payload | chk | endMark | cr | lf
  deriving DecidableEq, Repr

/-- `dec_state` (R25): which byte the decoder expects next. -/
inductive DecState where
  | idle | hunt | len | payload | chk | endMark
  deriving DecidableEq, Repr

/-- `txn_state` (R26). -/
inductive TxnState where
  | idle | send | await
  deriving DecidableEq, Repr

/-- `res_tag` (R28). -/
inductive ResTag where
  | none | success | exhausted | fatal
  deriving DecidableEq, Repr

/-- `sess_state` (R31). -/
inductive SessState where
  | closed | opened | cleared | active
  deriving DecidableEq, Repr

/-- `rpl_kind` (R33). -/
inductive RplKind where
  | none | alive | status | state | violation
  deriving DecidableEq, Repr

/-- Where R209's five lines stand. The spec gives `COMMAND` as a program and names no register for its place in it (log 5). -/
inductive CmdPhase where
  /-- No `COMMAND` is in progress: a raw `EXECUTE`, or nothing. -/
  | none
  /-- Line 4: the transaction of a `COMMAND` is running. -/
  | running
  /-- Line 5: the transaction has ended and the reply is to be decoded. -/
  | replyDue
  deriving DecidableEq, Repr

/-- An answer of the transport that comes as an event (R61, R62, R63, R320 (b); log 2). A byte answers `RxTake` by arriving on
the line (R320 (a)). -/
inductive TransportAnswer where
  /-- The answer to `TxPut`. -/
  | txPut (a : LineAnswer)
  /-- `Timeout`, to `RxTake`. -/
  | rxTimeout
  /-- `Fault`, to `RxTake`. -/
  | rxFault
  /-- The answer to `open` or a buffer reset. -/
  | line (a : LineAnswer)
  deriving DecidableEq, Repr

/-- What reaches the block from outside at a step (R5, R38, R320). -/
inductive HostEvent where
  /-- The host does nothing; the block takes a step of its own. -/
  | pass
  /-- Reset (R360). -/
  | reset
  /-- `SESSION_OPEN` with the two arguments that pass through unread (R63, R206). -/
  | sessionOpen (device : List Byte) (baudRate : Nat)
  /-- `SESSION_CLOSE` (R207). -/
  | sessionClose
  /-- `COMMAND` or `EXECUTE`, called with the host's own arguments (R111, R190, R209). A heading pseudo-instruction is the call
  of `headingInstr` (R260). -/
  | call (i : Instr)
  /-- `COMMAND`, called with an opcode byte and operands: a command that need not be a row of the opcode table (R209, R103). -/
  | command (c : Command)
  /-- Words presented at a port: a typed or raw command as bytes (D2), or bytes that arrive on the line (R320 (a)). -/
  | words (p : Port) (bs : List Byte)
  /-- The transport gives an answer (R320 (b), R372). -/
  | answer (a : TransportAnswer)
  deriving DecidableEq, Repr

/-- A transport operation other than a byte read or write, as the block asks for it (R63, R329). -/
inductive TransportCall where
  | openLine (device : List Byte) (baudRate : Nat)
  | resetInputBuffer
  | resetOutputBuffer
  | closeLine
  deriving DecidableEq, Repr

/-- What a host operation returns (R11, R190, R280, R310). R206 and R207 name no value for a `SESSION_OPEN` that succeeds and
for `SESSION_CLOSE`; `opened` and `closed` are the model's (log 32). -/
inductive HostResult where
  | success (q : List Byte)
  | exhausted
  | transportFatal
  | alive (a : Bool)
  | status (code : Nibble)
  | state (flags : Byte) (configured : Bool) (head tail count : Byte) (irqCnt cmdCnt : Word) (echoCount : Byte)
  | protocolViolation
  | refused (c : Cause)
  | opened
  | transportError
  | closed
  deriving DecidableEq, Repr

/-- Reasons the machine stops with a fault. No instruction's meaning raises one, and no run reaches one. -/
inductive Fault where
  /-- The encoder reads `req_buf` at index 15 (R60: no access falls outside a buffer). Raised by the send step in a state
  with `enc_state = E_PAYLOAD` and `enc_idx = 15`, which no run reaches. Safe. -/
  | reqBufIndex
  /-- The decoder writes `rx_buf` at index 15 (R60, R157). Raised by the await step in a state with
  `dec_state = D_PAYLOAD` and `dec_idx = 15`, which no run reaches. Safe. -/
  | rxBufIndex
  deriving DecidableEq, Repr

/-- Reasons a step gives no meaning. -/
inductive Refusal where
  /-- An instruction with no meaning yet. Raised by no arm of this model. Safe. -/
  | notModelled (mnemonic : String)
  /-- Words at the typed port that no typed command has (U13: the typed path cannot produce them). Raised by the fetch,
  never by an instruction's meaning. Safe. -/
  | undecodable (r : Reject)
  /-- A frame or a reply handed to the host's call port, or reply words presented by the host: not an operation of the
  host (R38). Raised by the fetch, never by an instruction's meaning. Safe. -/
  | notHostOperation
  /-- A typed command called with operands that are not of its opcode's `SHAPE`, or with a byte that is no opcode: the typed
  path cannot produce it (R103, R107, U13). Raised by the fetch, never by an instruction's meaning. Safe. -/
  | notOfShape
  deriving DecidableEq, Repr

/-- The state. The first 27 fields are R20's table in its order, `cmdPhase` and `waiting` the model's own control position,
then the environment, the outputs, and the block's parameters, which no step writes. -/
structure State where
  /-- `crc_acc` (R21). -/
  crcAcc : Word
  /-- `req_buf[0..14]` (R22). -/
  reqBuf : Buf
  /-- `req_len` (R22). -/
  reqLen : Nibble
  /-- `enc_state` (R24). -/
  encState : EncState
  /-- `enc_idx` (R24). -/
  encIdx : Nibble
  /-- `dec_state` (R25). -/
  decState : DecState
  /-- `dec_len` (R23). -/
  decLen : Nibble
  /-- `dec_idx` (R23). -/
  decIdx : Nibble
  /-- `rx_buf[0..14]` (R23). -/
  rxBuf : Buf
  /-- `dec_chk` (R23). -/
  decChk : Byte
  /-- `txn_state` (R26). -/
  txnState : TxnState
  /-- `attempt` (R27). -/
  attempt : BitVec 2
  /-- `res_tag` (R28). -/
  resTag : ResTag
  /-- `last_err` (R29). -/
  lastErr : Cause
  /-- `fatal` (R30). -/
  fatal : Bool
  /-- `sess_state` (R31). -/
  sessState : SessState
  /-- `cur_op` (R32). -/
  curOp : Byte
  /-- `rpl_kind` (R33). -/
  rplKind : RplKind
  /-- `rpl_alive` (R34). -/
  rplAlive : Bool
  /-- `rpl_status` (R34). -/
  rplStatus : Nibble
  /-- `rpl_flags` (R33). -/
  rplFlags : Byte
  /-- `rpl_head` (R33). -/
  rplHead : Byte
  /-- `rpl_tail` (R33). -/
  rplTail : Byte
  /-- `rpl_count` (R33). -/
  rplCount : Byte
  /-- `rpl_echo_count` (R33). -/
  rplEchoCount : Byte
  /-- `rpl_irq_cnt` (R33). -/
  rplIrqCnt : Word
  /-- `rpl_cmd_cnt` (R33). -/
  rplCmdCnt : Word
  /-- The place of R209's program (log 5). -/
  cmdPhase : CmdPhase
  /-- A `TxPut` or `RxTake` has been called and is unanswered (R61, R62, R372; log 4). -/
  waiting : Bool
  /-- The events to come, the host's and the transport's, the next first (logs 1, 2). -/
  schedule : List HostEvent
  /-- The transport's input buffer: bytes received and not yet taken, the oldest first (R36; log 3). -/
  inputBuffer : List Byte
  /-- The answers to `RxTake` when the input buffer is empty, the next first (R61; log 2). -/
  rxAnswers : List RxAnswer
  /-- The answers to `TxPut`, the next first (R62; log 2). -/
  txAnswers : List LineAnswer
  /-- The answers to `open` and the buffer resets, the next first (R63; log 2). -/
  lineAnswers : List LineAnswer
  /-- The TX stream, the first byte put first (R60 (a)). -/
  txStream : List Byte
  /-- The log events `(attempt, code)`, the first first (R331). -/
  log : List (BitVec 2 × Cause)
  /-- The transport operations asked for, the first first (R329). -/
  calls : List TransportCall
  /-- What the host operations returned, the first first. -/
  results : List HostResult
  /-- The OPEN parameters of this block (U14; log 12). -/
  params : Params
  deriving DecidableEq, Repr

/-- The machine right after reset (R39). The registers R39 leaves unspecified are zero: DESIGN CHOICE, log 6. The control
position, the environment and the outputs are empty: DESIGN CHOICE, log 7. The parameters are the spec's defaults, log 12. -/
def State.reset : State where
  crcAcc := 0xFFFFFFFF
  reqBuf := Vector.replicate 15 0
  reqLen := 0
  encState := .idle
  encIdx := 0
  decState := .idle
  decLen := 0
  decIdx := 0
  rxBuf := Vector.replicate 15 0
  decChk := 0
  txnState := .idle
  attempt := 0
  resTag := .none
  lastErr := .none
  fatal := false
  sessState := .closed
  curOp := 0x00
  rplKind := .none
  rplAlive := false
  rplStatus := 0
  rplFlags := 0
  rplHead := 0
  rplTail := 0
  rplCount := 0
  rplEchoCount := 0
  rplIrqCnt := 0
  rplCmdCnt := 0
  cmdPhase := .none
  waiting := false
  schedule := []
  inputBuffer := []
  rxAnswers := []
  txAnswers := []
  lineAnswers := []
  txStream := []
  log := []
  calls := []
  results := []
  params := defaultParams

end Sys2Proof.Machine
end

