-- ==== Sys2Proof/Machine/Flags.lean ====
section
/-! DEFINITION. Every flag and code computation of the spec: the numeric encodings of the enumerated registers (R24 to R33,
R310), the `configured` flag (R284), the liveness answer (R281), the admission tests (R191, R204), the legacy view (R201).
There are no arithmetic condition codes (R34). -/

namespace Sys2Proof.Machine

/-- The cause codes (R310). -/
def Cause.code : Cause → Nibble
  | .none => 0
  | .framingLen => 1
  | .framingEnd => 2
  | .integrity => 3
  | .readTimeout => 4
  | .emptyReply => 5
  | .protocolViolation => 6
  | .transport => 7
  | .payloadTooLong => 8
  | .busy => 9
  | .badSessionOp => 10

/-- The causes that end an attempt and are retried: codes 1 to 5 (R196, R310). -/
def Cause.endsAttempt (c : Cause) : Bool :=
  1 ≤ c.code.toNat && c.code.toNat ≤ 5

/-- The encoding of `enc_state` (R24). -/
def EncState.code : EncState → BitVec 3
  | .idle => 0
  | .start => 1
  | .len => 2
  | .payload => 3
  | .chk => 4
  | .endMark => 5
  | .cr => 6
  | .lf => 7

/-- The encoding of `dec_state` (R25). -/
def DecState.code : DecState → BitVec 3
  | .idle => 0
  | .hunt => 1
  | .len => 2
  | .payload => 3
  | .chk => 4
  | .endMark => 5

/-- The encoding of `txn_state` (R26). -/
def TxnState.code : TxnState → BitVec 2
  | .idle => 0
  | .send => 1
  | .await => 2

/-- The encoding of `res_tag` (R28). -/
def ResTag.code : ResTag → BitVec 2
  | .none => 0
  | .success => 1
  | .exhausted => 2
  | .fatal => 3

/-- The encoding of `sess_state` (R31). -/
def SessState.code : SessState → BitVec 2
  | .closed => 0
  | .opened => 1
  | .cleared => 2
  | .active => 3

/-- The encoding of `rpl_kind` (R33). -/
def RplKind.code : RplKind → BitVec 3
  | .none => 0
  | .alive => 1
  | .status => 2
  | .state => 3
  | .violation => 4

/-- `CONFIGURED` (R284): bit 0 of the flags byte. -/
def configured (flags : Byte) : Bool :=
  flags.getLsbD 0

/-- The liveness answer (R281): exactly one byte, equal to the alive marker. -/
def aliveAnswer (q : List Byte) : Bool :=
  q == [aliveMarker]

/-- A transaction is in progress (R204). -/
def State.busy (s : State) : Bool :=
  s.txnState != .idle

/-- A `TxPut` is in progress: called and unanswered (R62; log 4). -/
def State.putting (s : State) : Bool :=
  s.waiting && s.txnState == .send && s.encState != .idle

/-- An `RxTake` is in progress: called and unanswered (R61; log 4). -/
def State.taking (s : State) : Bool :=
  s.waiting && s.txnState == .await && s.decState != .idle

/-- The Session test of admission (R191 test 3), as the condition under which a request is admitted. -/
def State.usable (s : State) : Bool :=
  !s.fatal && (s.sessState == .cleared || s.sessState == .active)

/-- The request latched: `req_buf[0..req_len-1]` (R22). -/
def State.request (s : State) : List Byte :=
  s.reqBuf.toList.take s.reqLen.toNat

/-- The payload received: `rx_buf[0..dec_len-1]` (R23). -/
def State.received (s : State) : List Byte :=
  s.rxBuf.toList.take s.decLen.toNat

/-- The reference's untagged view of the result (R201). -/
inductive Legacy where
  /-- A payload, empty after exhausted retries. -/
  | payload (q : List Byte)
  /-- An error raised to the caller. -/
  | raised
  /-- No terminal outcome yet. -/
  | pending
  deriving DecidableEq, Repr

/-- `LEGACY` (R201). -/
def State.legacy (s : State) : Legacy :=
  match s.resTag with
  | .success => .payload s.received
  | .exhausted => .payload []
  | .fatal => .raised
  | .none => .pending

end Sys2Proof.Machine
end

