-- ==== Sys2Proof/Machine/Ops.lean ====
section
/-! DEFINITION. The named operations over the streams, the buffers and the registers: `RxTake` and `TxPut` (R61, R62), the
latch (R192), the start of an attempt (R193), and the block's exceptions, each one shared operation: a failed attempt (R322)
with its return, the retry (R323); the transport error (R200); the protocol violation (R286). Then admission (R191, R209). -/

namespace Sys2Proof.Machine

/-! ### Outputs -/

/-- Returns a result to the host. -/
def State.give (s : State) (r : HostResult) : State :=
  { s with results := s.results ++ [r] }

/-- Emits the log event `(attempt, code)` (R331). -/
def State.emitLog (s : State) (c : Cause) : State :=
  { s with log := s.log ++ [(s.attempt, c)] }

/-! ### Streams and buffers -/

/-- Writes bytes into a buffer from index `k` on. Bytes past index 14 are dropped; no caller has any (R60). -/
def writeBytes (v : Buf) (k : Nat) : List Byte → Buf
  | [] => v
  | b :: bs => writeBytes (v.setIfInBounds k b) (k + 1) bs

/-- `RxTake` (R61): the oldest byte of the input buffer, else the environment's next answer; `none` while unanswered. -/
def State.rxTake (s : State) : Option (RxAnswer × State) :=
  match s.inputBuffer with
  | b :: rest => some (.byte b, { s with inputBuffer := rest, waiting := false })
  | [] =>
    match s.rxAnswers with
    | a :: rest => some (a, { s with rxAnswers := rest, waiting := false })
    | [] => none

/-- `TxPut` (R62): on `Ok` the byte is the next of the TX stream, on `Fault` it is not on it; `none` while unanswered. -/
def State.txPut (s : State) (b : Byte) : Option (LineAnswer × State) :=
  match s.txAnswers with
  | .ok :: rest => some (.ok, { s with txAnswers := rest, txStream := s.txStream ++ [b], waiting := false })
  | .fault :: rest => some (.fault, { s with txAnswers := rest, waiting := false })
  | [] => none

/-! ### The end of a transaction -/

/-- What `EXECUTE` returns for the tag (R190). A tag of `NONE` is no terminal outcome; no run returns it. -/
def State.executeResult (s : State) : HostResult :=
  match s.resTag with
  | .success => .success s.received
  | .exhausted => .exhausted
  | .fatal => .transportFatal
  | .none => .transportFatal

/-- Hands the terminal outcome over: to R209's line 5 for a `COMMAND`, to the host for an `EXECUTE`. -/
def State.finish (s : State) : State :=
  match s.cmdPhase with
  | .running => { s with cmdPhase := .replyDue }
  | .none => s.give s.executeResult
  | .replyDue => s.give s.executeResult

/-- Success (R199). -/
def State.succeed (s : State) : State :=
  { s with decState := .idle, resTag := .success, txnState := .idle }.finish

/-- Exhausted (R198). -/
def State.exhaust (s : State) : State :=
  { s with resTag := .exhausted, txnState := .idle }.finish

/-! ### Exceptions and their return -/

/-- The start of an attempt (R193): first attempt and retry alike (R197, R323). -/
def State.startAttempt (s : State) : State :=
  { s with attempt := s.attempt + 1, txnState := .send, encState := .start, waiting := false }

/-- What a failed attempt records (R322): `last_err` and one log event; the decoder is idle again. -/
def State.noteFailure (s : State) (c : Cause) : State :=
  { s with decState := .idle, lastErr := c }.emitLog c

/-- A failed attempt (R322) and the retry test of R193: the third ends the transaction. -/
def State.failAttempt (s : State) (c : Cause) : State :=
  if s.attempt = Config.maxAttempts then (s.noteFailure c).exhaust else (s.noteFailure c).startAttempt

/-- A transport error in a transaction (R200). -/
def State.transportError (s : State) : State :=
  { s with
    fatal := true, lastErr := .transport, resTag := .fatal, encState := .idle, decState := .idle, txnState := .idle,
    waiting := false }.finish

/-- A protocol violation (R286): the `COMMAND` ends; no reply register is written. -/
def State.violate (s : State) : State :=
  { s with lastErr := .protocolViolation, rplKind := .violation, cmdPhase := .none }.give .protocolViolation

/-! ### Admission -/

/-- The latch (R192), for a payload of at most 15 bytes. -/
def State.latch (s : State) (p : List Byte) : State :=
  { s with
    reqBuf := writeBytes s.reqBuf 0 p, reqLen := BitVec.ofNat 4 p.length, attempt := 0, resTag := .none,
    lastErr := .none, sessState := .active }

/-- `EXECUTE` from the Session test on (R191 tests 3 and 4). -/
def State.runExecute (s : State) (p : List Byte) : State :=
  if s.usable then (s.latch p).startAttempt
  else { s with resTag := .fatal, lastErr := .transport }.finish

/-- `EXECUTE` (R190, R191). -/
def State.execute (s : State) (p : List Byte) : State :=
  if s.busy then s.give (.refused .busy)
  else if Config.maxPayload < p.length then s.give (.refused .payloadTooLong)
  else { s with cmdPhase := .none }.runExecute p

/-- `COMMAND` of a built request (R209 lines 1 to 4). -/
def State.command (s : State) (p : List Byte) : State :=
  if s.busy then s.give (.refused .busy)
  else { s with curOp := p.headD 0, rplKind := .none, cmdPhase := .running }.runExecute p

end Sys2Proof.Machine
end

