-- ==== Sys2Proof/Machine/All.lean ====
section
/-! DEFINITION. The whole-pad commands, shapes `ALL` and `ALL+D`: `S s`. -/

namespace Sys2Proof.Machine

open Host (Outcome)

/-- `S` (R244). -/
def execSetAll (mask : Half) (leftX leftY rightX rightY : Int) (dir : Direction) (s : State) : Outcome State Fault Refusal :=
  .next (s.command (buildAll s.params.hat opSetAll mask leftX leftY rightX rightY dir none))

/-- `S` with duration (R244). -/
def execSetAllD (mask : Half) (leftX leftY rightX rightY : Int) (dir : Direction)
    (msec : Half) (s : State) : Outcome State Fault Refusal :=
  .next (s.command (buildAll s.params.hat opSetAll mask leftX leftY rightX rightY dir (some msec)))

/-- `s` (R251). -/
def execPressAll (mask : Half) (leftX leftY rightX rightY : Int) (dir : Direction) (s : State) : Outcome State Fault Refusal :=
  .next (s.command (buildAll s.params.hat opPressAll mask leftX leftY rightX rightY dir none))

/-- `s` with duration (R251). -/
def execPressAllD (mask : Half) (leftX leftY rightX rightY : Int) (dir : Direction)
    (msec : Half) (s : State) : Outcome State Fault Refusal :=
  .next (s.command (buildAll s.params.hat opPressAll mask leftX leftY rightX rightY dir (some msec)))

end Sys2Proof.Machine
end

