-- ==== Sys2Proof/Machine/Buttons.lean ====
section
/-! DEFINITION. The button commands, shapes `BTN` and `BTN+D`: `B b`. -/

namespace Sys2Proof.Machine

open Host (Outcome)

/-- `B`, set-buttons (R245). -/
def execSetButtons (mask : Half) (s : State) : Outcome State Fault Refusal :=
  .next (s.command (buildBtn opSetButtons mask none))

/-- `B` with duration (R245). -/
def execSetButtonsD (mask msec : Half) (s : State) : Outcome State Fault Refusal :=
  .next (s.command (buildBtn opSetButtons mask (some msec)))

/-- `b`, press-buttons (R252). -/
def execPressButtons (mask : Half) (s : State) : Outcome State Fault Refusal :=
  .next (s.command (buildBtn opPressButtons mask none))

/-- `b` with duration (R252). -/
def execPressButtonsD (mask msec : Half) (s : State) : Outcome State Fault Refusal :=
  .next (s.command (buildBtn opPressButtons mask (some msec)))

end Sys2Proof.Machine
end

