-- ==== Sys2Proof/Machine/Hat.lean ====
section
/-! DEFINITION. The hat commands, shapes `HAT` and `HAT+D`: `H h`. -/

namespace Sys2Proof.Machine

open Host (Outcome)

/-- `H` (R248). -/
def execSetHat (dir : Direction) (s : State) : Outcome State Fault Refusal :=
  .next (s.command (buildHat s.params.hat opSetHat dir none))

/-- `H` with duration (R248). -/
def execSetHatD (dir : Direction) (msec : Half) (s : State) : Outcome State Fault Refusal :=
  .next (s.command (buildHat s.params.hat opSetHat dir (some msec)))

/-- `h` (R255). -/
def execPressHat (dir : Direction) (s : State) : Outcome State Fault Refusal :=
  .next (s.command (buildHat s.params.hat opPressHat dir none))

/-- `h` with duration (R255). -/
def execPressHatD (dir : Direction) (msec : Half) (s : State) : Outcome State Fault Refusal :=
  .next (s.command (buildHat s.params.hat opPressHat dir (some msec)))

end Sys2Proof.Machine
end

