-- ==== Sys2Proof/Machine/Msec.lean ====
section
/-! DEFINITION. The duration commands, shape `MSEC`: `M P`. -/

namespace Sys2Proof.Machine

open Host (Outcome)

/-- `M`, set-down-msec (R250). -/
def execSetDownMsec (msec : Half) (s : State) : Outcome State Fault Refusal :=
  .next (s.command (buildMsec opSetDownMsec msec))

/-- `P`, pause-msec (R257). -/
def execPauseMsec (msec : Half) (s : State) : Outcome State Fault Refusal :=
  .next (s.command (buildMsec opPauseMsec msec))

end Sys2Proof.Machine
end

