-- ==== Sys2Proof/Machine/Plain.lean ====
section
/-! DEFINITION. The operand-free commands, shape `EMPTY`: `T Q D O U C p`. -/

namespace Sys2Proof.Machine

open Host (Outcome)

/-- `T`, test/alive (R240). -/
def execTest (s : State) : Outcome State Fault Refusal :=
  .next (s.command (buildEmpty opTest))

/-- `Q`, query-state (R241). -/
def execQueryState (s : State) : Outcome State Fault Refusal :=
  .next (s.command (buildEmpty opQueryState))

/-- `D`, debug (R242). -/
def execDebug (s : State) : Outcome State Fault Refusal :=
  .next (s.command (buildEmpty opDebug))

/-- `O`, get-USB-out-data (R243). -/
def execGetUsbOutData (s : State) : Outcome State Fault Refusal :=
  .next (s.command (buildEmpty opGetUsbOutData))

/-- `U`, unset-all (R249). -/
def execUnsetAll (s : State) : Outcome State Fault Refusal :=
  .next (s.command (buildEmpty opUnsetAll))

/-- `C`, clear-state (R256). -/
def execClearState (s : State) : Outcome State Fault Refusal :=
  .next (s.command (buildEmpty opClearState))

/-- `p`, report-pending (R258). -/
def execReportPending (s : State) : Outcome State Fault Refusal :=
  .next (s.command (buildEmpty opReportPending))

end Sys2Proof.Machine
end

