-- ==== Sys2Proof/Machine/Reply.lean ====
section
/-! DEFINITION. The reply decoders (R281 to R283, R290): each writes its registers and `rpl_kind` in one step and ends the
`COMMAND`. The violation is `State.violate` (R286). -/

namespace Sys2Proof.Machine

open Host (Outcome)

/-- `DECODE_ALIVE` (R281): never a violation. -/
def execReplyAlive (bytes : List Byte) (s : State) : Outcome State Fault Refusal :=
  .next ({ s with rplAlive := aliveAnswer bytes, rplKind := .alive, cmdPhase := .none }.give
    (.alive (aliveAnswer bytes)))

/-- `DECODE_STATUS` (R282) of the byte `STATUS_BASE + code`: a code above 9 is the byte of no status code (R286). -/
def execReplyStatus (code : Nibble) (s : State) : Outcome State Fault Refusal :=
  if 9 < code.toNat then .next s.violate
  else .next ({ s with rplStatus := code, rplKind := .status, cmdPhase := .none }.give (.status code))

/-- `DECODE_STATE` (R283). -/
def execReplyState (flags head tail count : Byte) (irqCnt cmdCnt : Word) (echoCount : Byte) (s : State) :
    Outcome State Fault Refusal :=
  .next ({ s with
    rplFlags := flags, rplHead := head, rplTail := tail, rplCount := count, rplIrqCnt := irqCnt, rplCmdCnt := cmdCnt,
    rplEchoCount := echoCount, rplKind := .state, cmdPhase := .none }.give
    (.state flags (configured flags) head tail count irqCnt cmdCnt echoCount))

end Sys2Proof.Machine
end

