-- ==== Sys2Proof/Machine/Sticks.lean ====
section
/-! DEFINITION. The stick commands, shapes `STK` and `STK+D`: `L R l r`. -/

namespace Sys2Proof.Machine

open Host (Outcome)

/-- `L` (R246). -/
def execSetLeftJoy (axisX axisY : Int) (s : State) : Outcome State Fault Refusal :=
  .next (s.command (buildStk opSetLeftJoy axisX axisY none))

/-- `L` with duration (R246). -/
def execSetLeftJoyD (axisX axisY : Int) (msec : Half) (s : State) : Outcome State Fault Refusal :=
  .next (s.command (buildStk opSetLeftJoy axisX axisY (some msec)))

/-- `R` (R247). -/
def execSetRightJoy (axisX axisY : Int) (s : State) : Outcome State Fault Refusal :=
  .next (s.command (buildStk opSetRightJoy axisX axisY none))

/-- `R` with duration (R247). -/
def execSetRightJoyD (axisX axisY : Int) (msec : Half) (s : State) : Outcome State Fault Refusal :=
  .next (s.command (buildStk opSetRightJoy axisX axisY (some msec)))

/-- `l` (R253). -/
def execMoveLeftJoy (axisX axisY : Int) (s : State) : Outcome State Fault Refusal :=
  .next (s.command (buildStk opMoveLeftJoy axisX axisY none))

/-- `l` with duration (R253). -/
def execMoveLeftJoyD (axisX axisY : Int) (msec : Half) (s : State) : Outcome State Fault Refusal :=
  .next (s.command (buildStk opMoveLeftJoy axisX axisY (some msec)))

/-- `r` (R254). -/
def execMoveRightJoy (axisX axisY : Int) (s : State) : Outcome State Fault Refusal :=
  .next (s.command (buildStk opMoveRightJoy axisX axisY none))

/-- `r` with duration (R254). -/
def execMoveRightJoyD (axisX axisY : Int) (msec : Half) (s : State) : Outcome State Fault Refusal :=
  .next (s.command (buildStk opMoveRightJoy axisX axisY (some msec)))

end Sys2Proof.Machine
end

