-- ==== Sys2Proof/Machine/Encoder.lean ====
section
/-! DEFINITION. The send sequence, one `TxPut` a step (R152). -/

namespace Sys2Proof.Machine

/-- The byte the encoder offers next (R152). `none`: no byte in `E_IDLE`, or an index outside `req_buf`. -/
def State.encByte (s : State) : Option Byte :=
  match s.encState with
  | .idle => none
  | .start => some Config.startMarker
  | .len => some (lenByte s.reqLen)
  | .payload => s.reqBuf[s.encIdx.toNat]?
  | .chk => some (crcCheck s.crcAcc)
  | .endMark => some Config.endMarker
  | .cr => some trailerCr
  | .lf => some trailerLf

/-- R152 after `Ok` for the byte `b`. The last trailer byte also starts the await of R193. -/
def State.encAdvance (s : State) (b : Byte) : State :=
  match s.encState with
  | .idle => s
  | .start => { s with encState := .len }
  | .len =>
    { s with crcAcc := crcInitial, encIdx := 0, encState := if s.reqLen = 0 then .chk else .payload }
  | .payload =>
    { s with
      crcAcc := crcUpdate s.crcAcc b, encIdx := s.encIdx + 1,
      encState := if s.encIdx + 1 = s.reqLen then .chk else .payload }
  | .chk => { s with encState := .endMark }
  | .endMark => { s with encState := .cr }
  | .cr => { s with encState := .lf }
  | .lf => { s with encState := .idle, txnState := .await, decState := .hunt }

/-- One step of the send sequence (R152). In `E_IDLE`, which no run meets while sending (R26), no rule applies and nothing
changes (log 18). -/
def State.sendStep (s : State) : Host.Outcome State Fault Refusal :=
  if s.encState = .idle then .next s
  else
    match s.encByte with
    | none => .fault .reqBufIndex
    | some b =>
      match s.txPut b with
      | none => .next { s with waiting := true }
      | some (.fault, s1) => .next s1.transportError
      | some (.ok, s1) => .next (s1.encAdvance b)

end Sys2Proof.Machine
end

