-- ==== Sys2Proof/Machine/Decoder.lean ====
section
/-! DEFINITION. The decoder, one `RxTake` a step (R155 to R162), with the engine's reaction to each outcome (R193). -/

namespace Sys2Proof.Machine

/-- A length byte accepted (R156). -/
def State.beginFrame (s : State) (n : Nibble) : State :=
  { s with
    decLen := n, decIdx := 0, crcAcc := crcInitial, decState := if n = 0 then .chk else .payload }

/-- A payload byte (R157), at an index inside `rx_buf`. -/
def State.storeByte (s : State) (b : Byte) : State :=
  { s with
    rxBuf := s.rxBuf.setIfInBounds s.decIdx.toNat b, crcAcc := crcUpdate s.crcAcc b, decIdx := s.decIdx + 1,
    decState := if s.decIdx + 1 = s.decLen then .chk else .payload }

/-- The end marker has come (R159, R193): the check byte, then the empty payload (R196), then success. -/
def State.endFrame (s : State) : State :=
  if s.decChk ≠ crcCheck s.crcAcc then s.failAttempt .integrity
  else if s.decLen = 0 then s.failAttempt .emptyReply
  else s.succeed

/-- One byte taken (R155 to R159). -/
def State.decByte (s : State) (b : Byte) : Host.Outcome State Fault Refusal :=
  match s.decState with
  | .idle => .next s
  | .hunt => .next (if b = Config.startMarker then { s with decState := .len } else s)
  | .len =>
    match lenOfByte b with
    | none => .next (s.failAttempt .framingLen)
    | some n => .next (s.beginFrame n)
  | .payload => if s.decIdx.toNat < 15 then .next (s.storeByte b) else .fault .rxBufIndex
  | .chk => .next { s with decChk := b, decState := .endMark }
  | .endMark => .next (if b = Config.endMarker then s.endFrame else s.failAttempt .framingEnd)

/-- What an answer to `RxTake` does (R155 to R162, R193, R200). -/
def State.awaitAnswer (s : State) (a : RxAnswer) : Host.Outcome State Fault Refusal :=
  match a with
  | .fault => .next s.transportError
  | .timeout => .next (s.failAttempt .readTimeout)
  | .byte b => s.decByte b

/-- One step of the decoder (R154). In `D_IDLE`, which no run meets while awaiting (R26), no rule applies and nothing
changes (log 18). -/
def State.awaitStep (s : State) : Host.Outcome State Fault Refusal :=
  if s.decState = .idle then .next s
  else
    match s.rxTake with
    | none => .next { s with waiting := true }
    | some (a, s1) => s1.awaitAnswer a

/-- One step of the block on its own (R193): nothing to do when idle (R332); in a transaction, the Session test before each
new call (R208), then the call. A call already made is answered first (R372; log 4). -/
def State.blockStep (s : State) : Host.Outcome State Fault Refusal :=
  match s.txnState with
  | .idle => .next s
  | .send => if s.sessState = .closed && !s.waiting then .next s.transportError else s.sendStep
  | .await => if s.sessState = .closed && !s.waiting then .next s.transportError else s.awaitStep

end Sys2Proof.Machine
end

