-- ==== Sys2Proof/Machine/Wire.lean ====
section
/-! DEFINITION. The raw form (R239) and the frame on the wire (R90). -/

namespace Sys2Proof.Machine

open Host (Outcome)

/-- The raw form: `EXECUTE` of the bytes, unexamined (R190, R239). -/
def execRaw (bytes : List Byte) (s : State) : Outcome State Fault Refusal :=
  .next (s.execute bytes)

/-- Bytes arrive in the transport's input buffer and stay until taken (R36, R69, R320 (a)). -/
def State.arrive (s : State) (bs : List Byte) : State :=
  { s with inputBuffer := s.inputBuffer ++ bs }

/-- A frame on the wire (R90): its bytes arrive in the transport's input buffer, where the decoder takes them one a step, the next
at its next `RxTake` (R7, R320 (a); log 14). A payload longer than 15 has no frame (R151, R109). -/
def execFrame (payload : List Byte) (check : Byte) (s : State) : Outcome State Fault Refusal :=
  if Config.maxPayload < payload.length then .next (s.give (.refused .payloadTooLong))
  else .next (s.arrive (frameBytes payload check))

end Sys2Proof.Machine
end

