-- ==== Sys2Proof/Machine/Dispatch.lean ====
section
/-! DEFINITION. The dispatch: one arm per constructor of Instr. -/

namespace Sys2Proof.Machine

def exec (i : Instr) (s : State) : Host.Outcome State Fault Refusal :=
  match i with
  | .test => Sys2Proof.Machine.execTest s
  | .queryState => Sys2Proof.Machine.execQueryState s
  | .debug => Sys2Proof.Machine.execDebug s
  | .getUsbOutData => Sys2Proof.Machine.execGetUsbOutData s
  | .setAll mask lx ly rx ry dir => Sys2Proof.Machine.execSetAll mask lx ly rx ry dir s
  | .setAllD mask lx ly rx ry dir msec => Sys2Proof.Machine.execSetAllD mask lx ly rx ry dir msec s
  | .setButtons mask => Sys2Proof.Machine.execSetButtons mask s
  | .setButtonsD mask msec => Sys2Proof.Machine.execSetButtonsD mask msec s
  | .setLeftJoy x y => Sys2Proof.Machine.execSetLeftJoy x y s
  | .setLeftJoyD x y msec => Sys2Proof.Machine.execSetLeftJoyD x y msec s
  | .setRightJoy x y => Sys2Proof.Machine.execSetRightJoy x y s
  | .setRightJoyD x y msec => Sys2Proof.Machine.execSetRightJoyD x y msec s
  | .setHat dir => Sys2Proof.Machine.execSetHat dir s
  | .setHatD dir msec => Sys2Proof.Machine.execSetHatD dir msec s
  | .unsetAll => Sys2Proof.Machine.execUnsetAll s
  | .setDownMsec msec => Sys2Proof.Machine.execSetDownMsec msec s
  | .pressAll mask lx ly rx ry dir => Sys2Proof.Machine.execPressAll mask lx ly rx ry dir s
  | .pressAllD mask lx ly rx ry dir msec => Sys2Proof.Machine.execPressAllD mask lx ly rx ry dir msec s
  | .pressButtons mask => Sys2Proof.Machine.execPressButtons mask s
  | .pressButtonsD mask msec => Sys2Proof.Machine.execPressButtonsD mask msec s
  | .moveLeftJoy x y => Sys2Proof.Machine.execMoveLeftJoy x y s
  | .moveLeftJoyD x y msec => Sys2Proof.Machine.execMoveLeftJoyD x y msec s
  | .moveRightJoy x y => Sys2Proof.Machine.execMoveRightJoy x y s
  | .moveRightJoyD x y msec => Sys2Proof.Machine.execMoveRightJoyD x y msec s
  | .pressHat dir => Sys2Proof.Machine.execPressHat dir s
  | .pressHatD dir msec => Sys2Proof.Machine.execPressHatD dir msec s
  | .clearState => Sys2Proof.Machine.execClearState s
  | .pauseMsec msec => Sys2Proof.Machine.execPauseMsec msec s
  | .reportPending => Sys2Proof.Machine.execReportPending s
  | .raw bytes => Sys2Proof.Machine.execRaw bytes s
  | .frame payload check => Sys2Proof.Machine.execFrame payload check s
  | .replyAlive bytes => Sys2Proof.Machine.execReplyAlive bytes s
  | .replyStatus code => Sys2Proof.Machine.execReplyStatus code s
  | .replyState flags head tail count irq cmd echo => Sys2Proof.Machine.execReplyState flags head tail count irq cmd echo s

end Sys2Proof.Machine
end

