-- ==== Sys2Proof/Machine/Session.lean ====
section
/-! DEFINITION. The session operations (R206, R207), the transport's answers as events (R320 (b)) and reset (R360 to R362). -/

namespace Sys2Proof.Machine

/-- The transport operations asked for, recorded (R329). -/
def State.ask (s : State) (cs : List TransportCall) : State :=
  { s with calls := s.calls ++ cs }

/-- A failure inside `SESSION_OPEN` (R206 steps 3 and 5). -/
def State.openFailed (s : State) : State :=
  { s with fatal := true, lastErr := .transport }.give .transportError

/-- The input buffer after `reset_input_buffer()`: empty when it answers `Ok` (R71), left when it answers `Fault` (log 10). -/
def State.resetInput (s : State) (r : LineAnswer) : State :=
  match r with
  | .ok => { s with inputBuffer := [] }
  | .fault => s

/-- R206 steps 4 to 6, `open` having answered `Ok` and the two buffer resets `r1` and `r2`. The result `opened` is the model's
choice (log 32). So is what becomes of a byte that arrives between the answers of the two resets: it is discarded with the rest,
since the buffer is emptied as the last answer is in; the spec leaves the order of the resets open (U15), and so this (log 33). -/
def State.openAnswered (s : State) (r1 r2 : LineAnswer) : State :=
  let s1 := { s with sessState := .opened }.ask [.resetInputBuffer, .resetOutputBuffer] |>.resetInput r1
  if r1 = .fault ∨ r2 = .fault then s1.openFailed
  else { s1 with sessState := .cleared, fatal := false }.give .opened

/-- `SESSION_OPEN` from step 3 on (R206): `none` while the transport has not answered all it is asked (log 8). -/
def State.openLine (s : State) (device : List Byte) (baudRate : Nat) : Option State :=
  match s.lineAnswers with
  | [] => none
  | .fault :: rest => some ({ s with lineAnswers := rest }.ask [.openLine device baudRate]).openFailed
  | .ok :: r1 :: r2 :: rest =>
    some (({ s with lineAnswers := rest }.ask [.openLine device baudRate]).openAnswered r1 r2)
  | [.ok] => none
  | [.ok, _] => none

/-- `SESSION_OPEN` (R206). -/
def State.sessionOpen (s : State) (device : List Byte) (baudRate : Nat) : Option State :=
  if s.busy then some (s.give (.refused .busy))
  else if s.sessState ≠ .closed then some (s.give (.refused .badSessionOp))
  else s.openLine device baudRate

/-- `SESSION_CLOSE` (R207, R208): admitted in every `txn_state`; the answer of `close()` is not looked at (log 9). That it
returns the result `closed`, on a closed Session too, is the model's choice: R207 gives no result (log 32). -/
def State.sessionClose (s : State) : State :=
  if s.sessState = .closed then s.give .closed
  else ({ s with sessState := .closed }.ask [.closeLine]).give .closed

/-- The answers to `TxPut` an answer of the transport is. -/
def TransportAnswer.toTxPut : TransportAnswer → List LineAnswer
  | .txPut a => [a]
  | .rxTimeout => []
  | .rxFault => []
  | .line _ => []

/-- The answers to `RxTake` it is. -/
def TransportAnswer.toRxTake : TransportAnswer → List RxAnswer
  | .txPut _ => []
  | .rxTimeout => [.timeout]
  | .rxFault => [.fault]
  | .line _ => []

/-- The answers to `open` and the buffer resets it is. -/
def TransportAnswer.toLine : TransportAnswer → List LineAnswer
  | .txPut _ => []
  | .rxTimeout => []
  | .rxFault => []
  | .line a => [a]

/-- An answer of the transport to no call in progress is kept, behind the others of its kind, for a later call: of `RxTake`, one
that finds the input buffer empty (log 2). -/
def State.answered (s : State) (a : TransportAnswer) : State :=
  { s with
    txAnswers := s.txAnswers ++ a.toTxPut, rxAnswers := s.rxAnswers ++ a.toRxTake,
    lineAnswers := s.lineAnswers ++ a.toLine }

/-- Reset as an event (R360): every register and the control position as after reset; the environment, the outputs and
the parameters are not touched (R361, R362, R363). A `TxPut` or `RxTake` in progress is withdrawn, which is the model's choice
where the spec is silent: the byte offered is not put, and an answer that comes later serves the next call (log 31). -/
def State.hardReset (s : State) : State :=
  { State.reset with
    schedule := s.schedule, inputBuffer := s.inputBuffer, rxAnswers := s.rxAnswers, txAnswers := s.txAnswers,
    lineAnswers := s.lineAnswers, txStream := s.txStream, log := s.log, calls := s.calls, results := s.results,
    params := s.params }

end Sys2Proof.Machine
end

