-- ==== Sys2Proof/Machine/Fetch.lean ====
section
/-! DEFINITION. What a step does first: which of the host's event, the reply due and the block's own next step comes, and
which instruction, if any, it fetches and from where (R37, R73, R280, R320). Also how a table word is placed for the fetch. -/

namespace Sys2Proof.Machine

open Host (Outcome)

/-- What a step is to do: run a fetched instruction on a state, or end as given. -/
inductive Fetched where
  | run (i : Instr) (s : State)
  | act (o : Outcome State Fault Refusal)
  deriving Repr

/-- R209's line 5, `REPLY_DECODE` (R280): the instruction is read from `rx_buf[0..dec_len-1]` under `REPLY_CLASS[cur_op]`; a
payload that is no reply of the class is a violation (R286); an exhausted command of class `ALIVE` reads as the empty reply (R281). -/
def fetchReply (s : State) : Fetched :=
  match s.resTag with
  | .success =>
    match decode s.params (.reply (replyClass s.params s.curOp)) s.received with
    | .ok i => .run i s
    | .error _ => .act (.next s.violate)
  | .exhausted =>
    if replyClass s.params s.curOp = .alive then .run (.replyAlive []) s
    else .act (.next ({ s with cmdPhase := .none }.give .exhausted))
  | .fatal => .act (.next ({ s with cmdPhase := .none }.give .transportFatal))
  | .none => .act (.next ({ s with cmdPhase := .none }.give .transportFatal))

/-- A command of its opcode's shape (R103, R209): the row of the opcode table it is, or, of a shape that is not the default,
`COMMAND` of its words. -/
def runCommand (c : Command) (s : State) : Fetched :=
  match rowOf c with
  | some i => .run i s
  | none => .act (.next (s.command (build s.params.hat c)))

/-- The host's call of a command (R38, R209). -/
def fetchCommand (c : Command) (s : State) : Fetched :=
  if c.ofShape s.params then runCommand c s else .act (.refused .notOfShape)

/-- The host's call of an instruction: typed and raw commands only (R38), a typed command of its opcode's shape (R103, R209). -/
def fetchCall (i : Instr) (s : State) : Fetched :=
  match portOf i with
  | .typed => if i.ofShape s.params then .run i s else .act (.refused .notOfShape)
  | .raw => .run i s
  | .wire => .act (.refused .notHostOperation)
  | .reply _ => .act (.refused .notHostOperation)

/-- Words at a port: decoded and run. Bytes on the wire that are not exactly one frame are bytes all the same (R329): they
arrive as a frame's do (log 14). -/
def fetchWords (p : Port) (bs : List Byte) (s : State) : Fetched :=
  match p with
  | .reply _ => .act (.refused .notHostOperation)
  | .wire =>
    match decode s.params .wire bs with
    | .ok i => .run i s
    | .error _ => .act (.next (s.arrive bs))
  | .typed =>
    match decodeCommand s.params bs with
    | .ok c => runCommand c s
    | .error r => .act (.refused (.undecodable r))
  | .raw =>
    match decode s.params .raw bs with
    | .ok i => .run i s
    | .error r => .act (.refused (.undecodable r))

/-- The transport gives an answer (R320 (b)). It is the answer to the call of its kind in progress, whatever bytes have arrived
since that call was made or arrive later: this step takes it (R372). With no such call in progress it is kept (log 2). -/
def State.answer (s : State) (a : TransportAnswer) : Outcome State Fault Refusal :=
  match a with
  | .txPut r => if s.putting then { s with txAnswers := r :: s.txAnswers }.sendStep else .next (s.answered a)
  | .rxTimeout => if s.taking then { s with waiting := false }.awaitAnswer .timeout else .next (s.answered a)
  | .rxFault => if s.taking then { s with waiting := false }.awaitAnswer .fault else .next (s.answered a)
  | .line _ => .next (s.answered a)

/-- The event is an operation of the host (R38). -/
def HostEvent.isOperation : HostEvent → Bool
  | .pass => false
  | .reset => false
  | .sessionOpen _ _ => true
  | .sessionClose => true
  | .call _ => true
  | .command _ => true
  | .words p _ => p != .wire
  | .answer _ => false

/-- The first event that is no operation of the host, and the events without it. -/
def takeOutside : List HostEvent → Option (HostEvent × List HostEvent)
  | [] => none
  | e :: es => if e.isOperation then (takeOutside es).map fun x => (x.1, e :: x.2) else some (e, es)

/-- A `SESSION_OPEN` the transport has not fully answered (log 8): the block waits and changes no register. The host's
operations behind it wait their turn. The first event that is none is seen at once: a reset (R320 (d)), an answer of the
transport, bytes on the line; a pass is used up. -/
def openWaits (device : List Byte) (baudRate : Nat) (rest : List HostEvent) (s : State) : State :=
  match takeOutside rest with
  | none => s
  | some (e, later) =>
    let s1 := { s with schedule := .sessionOpen device baudRate :: later }
    match e with
    | .pass => s1
    | .reset => { s with schedule := later }.hardReset
    | .sessionOpen _ _ => s
    | .sessionClose => s
    | .call _ => s
    | .command _ => s
    | .words _ bs => s1.arrive bs
    | .answer a => s1.answered a

/-- The host's event at the head of the schedule, `rest` behind it. -/
def fetchEvent (e : HostEvent) (rest : List HostEvent) (s : State) : Fetched :=
  let s1 := { s with schedule := rest }
  match e with
  | .pass => .act s1.blockStep
  | .reset => .act (.next s1.hardReset)
  | .sessionOpen device baudRate =>
    match s1.sessionOpen device baudRate with
    | some s2 => .act (.next s2)
    | none => .act (.next (openWaits device baudRate rest s))
  | .sessionClose => .act (.next s1.sessionClose)
  | .call i => fetchCall i s1
  | .command c => fetchCommand c s1
  | .words p bs => fetchWords p bs s1
  | .answer a => .act (s1.answer a)

/-- What the next step does. Reset is seen at once (R320 (d)); a reply that is due comes before any other event of the host
(log 5); then the host's event; with none left the block steps on its own. -/
def fetch (s : State) : Fetched :=
  match s.schedule with
  | [] => if s.cmdPhase = .replyDue then fetchReply s else .act s.blockStep
  | .reset :: rest => fetchEvent .reset rest s
  | e :: rest => if s.cmdPhase = .replyDue then fetchReply s else fetchEvent e rest s

/-- The opcode byte whose reply class is `c` at the default parameters, kept if the present one has it (R106). -/
def opOfClass (c : ReplyClass) (op : Byte) : Byte :=
  if replyClass defaultParams op = c then op
  else
    match c with
    | .alive => opTest
    | .status => opDebug
    | .state => opQueryState

/-- Places words of the default parameters where the next step fetches from: at the head of the schedule, or, for a reply, in
`rx_buf` with a `COMMAND` of its class at line 5 (log 20). -/
def State.placeWords (s : State) (p : Port) (bs : List Byte) : State :=
  match p with
  | .reply c =>
    { s with
      params := defaultParams, schedule := .pass :: s.schedule, rxBuf := writeBytes s.rxBuf 0 bs,
      decLen := BitVec.ofNat 4 bs.length, resTag := .success, curOp := opOfClass c s.curOp, cmdPhase := .replyDue }
  | .typed =>
    { s with params := defaultParams, schedule := .words .typed bs :: s.schedule, cmdPhase := .none }
  | .raw => { s with params := defaultParams, schedule := .words .raw bs :: s.schedule, cmdPhase := .none }
  | .wire => { s with params := defaultParams, schedule := .words .wire bs :: s.schedule, cmdPhase := .none }

end Sys2Proof.Machine
end

