-- ==== Sys2Proof/Machine/Step.lean ====
section
/-! DEFINITION. One step: fetch, then run the instruction fetched or end as the fetch says. And the host's placing of a
table word. -/

namespace Sys2Proof.Machine

/-- One event step (R7). -/
def step (s : State) : Host.Outcome State Fault Refusal :=
  match fetch s with
  | .run i s1 => exec i s1
  | .act o => o

/-- `s` with the instruction of a table word where the next step fetches it (log 20). -/
def State.withFetchWord (s : State) (nbits w : Nat) : State :=
  s.placeWords (tablePort (tableBytes nbits w)) (tableBytes nbits w)

end Sys2Proof.Machine
end

