-- ==== Sys2Proof/Safety.lean ====
section
/-! DEFINITION. What claims use to speak of runs: the invariant of the block's registers, the requests a typed command
builds, and the answers `DECODE` and `EXEC` speak of. -/

namespace Sys2Proof.Machine

/-- The encoder's part of the invariant: it is idle exactly outside `T_SEND` (R26), its index points into the request (R152)
and the accumulator covers the bytes emitted so far (R132). -/
def State.encoderInv (s : State) : Prop :=
  (s.txnState = .send ↔ s.encState ≠ .idle) ∧
  (s.encState = .payload → s.encIdx < s.reqLen) ∧
  (s.encState = .payload → s.crcAcc = crcFold crcInitial (s.request.take s.encIdx.toNat)) ∧
  (s.encState = .chk → s.crcAcc = crcFold crcInitial s.request)

/-- The decoder's part of the invariant: it is idle exactly outside `T_AWAIT` (R26), its index counts the bytes stored
(R23) and the accumulator covers them (R132, R159). -/
def State.decoderInv (s : State) : Prop :=
  (s.txnState = .await ↔ s.decState ≠ .idle) ∧
  (s.decState = .payload → s.decIdx < s.decLen) ∧
  (s.decState = .payload → s.crcAcc = crcFold crcInitial (s.received.take s.decIdx.toNat)) ∧
  (s.decState = .chk ∨ s.decState = .endMark → s.decIdx = s.decLen ∧ s.crcAcc = crcFold crcInitial s.received)

/-- The transaction's part of the invariant: `attempt` is 1 to 3 in a transaction (R27), the tag is `NONE` in one (R28), the
Session of one is active or closed under it (R192, R208), and R209's place agrees with `txn_state`. -/
def State.transactionInv (s : State) : Prop :=
  (s.txnState ≠ .idle → 1 ≤ s.attempt.toNat ∧ s.resTag = .none) ∧
  (s.txnState ≠ .idle → s.sessState = .active ∨ s.sessState = .closed) ∧
  (s.txnState ≠ .idle → s.cmdPhase ≠ .replyDue) ∧
  (s.txnState = .idle → s.cmdPhase ≠ .running ∧ s.waiting = false) ∧
  (s.cmdPhase = .replyDue → s.resTag ≠ .none)

/-- The results' part of the invariant: a success carries at least one byte (R28, R201), `last_err` holds codes 0 to 7 (R310),
`rpl_status` a code of at most 9 (R34). -/
def State.resultInv (s : State) : Prop :=
  (s.resTag = .success → s.decLen ≠ 0) ∧
  s.lastErr.code.toNat ≤ 7 ∧
  s.rplStatus.toNat ≤ 9

/-- The invariant of the block: it holds at reset and every step keeps it. It constrains no input. -/
def State.Inv (s : State) : Prop :=
  s.encoderInv ∧ s.decoderInv ∧ s.transactionInv ∧ s.resultInv

/-- `n` steps, stopping at the first stop. -/
def run : Nat → State → Host.Outcome State Fault Refusal
  | 0, s => .next s
  | n + 1, s =>
    match step s with
    | .next t => run n t
    | .fault f => .fault f
    | .refused r => .refused r

/-- A request issued in this state is admitted (R191, R326): the block is idle, no fault is pending, the Session is cleared or
active. -/
def State.admits (s : State) : Prop :=
  s.txnState = .idle ∧ s.fatal = false ∧ (s.sessState = .cleared ∨ s.sessState = .active)

/-- The state right after an admitted request `p`: latched (R192), its first attempt started (R193). -/
def State.started (s : State) (p : List Byte) : State :=
  { s with
    reqBuf := writeBytes s.reqBuf 0 p, reqLen := BitVec.ofNat 4 p.length, attempt := 1, resTag := .none,
    lastErr := .none, sessState := .active, txnState := .send, encState := .start, waiting := false }

/-- The state right after an admitted typed command with the opcode `op` and the operands `ops` (R209). -/
def State.startedCommand (s : State) (op : Byte) (ops : List Byte) : State :=
  { s.started (op :: ops) with curOp := op, rplKind := .none, cmdPhase := .running }

/-- Reset is not the host's next event, so that a reply due is decoded by the next step (R320 (d)). -/
def State.noReset (s : State) : Prop :=
  ∀ rest, s.schedule ≠ .reset :: rest

/-- A `COMMAND` whose transaction succeeded is at R209's line 5 and the next step decodes its reply under the class `c`. -/
def State.replyReady (s : State) (c : ReplyClass) : Prop :=
  s.cmdPhase = .replyDue ∧ s.noReset ∧ s.resTag = .success ∧ replyClass s.params s.curOp = c

/-- The block hunts for a reply on an open Session, with nothing scheduled by the host. -/
def State.hunting (s : State) : Prop :=
  s.txnState = .await ∧ s.decState = .hunt ∧ s.sessState ≠ .closed ∧ s.schedule = [] ∧ s.cmdPhase ≠ .replyDue

/-- The state in which the decoder stands once it has taken a whole frame with payload `p` and check byte `check`, before its
checks (R155 to R160): one `RxTake` a step brings it there. -/
def State.takeFrame (s : State) (p : List Byte) (check : Byte) : State :=
  { s with
    decLen := BitVec.ofNat 4 p.length, decIdx := BitVec.ofNat 4 p.length, rxBuf := writeBytes s.rxBuf 0 p,
    crcAcc := crcFold crcInitial p, decChk := check, decState := .endMark, waiting := false }

/-- The state after a protocol violation (R286). -/
def State.violated (s : State) : State :=
  { s with
    lastErr := .protocolViolation, rplKind := .violation, cmdPhase := .none,
    results := s.results ++ [.protocolViolation] }

/-- The answers to successive `RxTake` calls, were no more bytes to arrive (R35, R60 (b)). -/
def State.rxStream (s : State) : List RxAnswer :=
  byteAnswers s.inputBuffer ++ s.rxAnswers

/-- `t` follows `s` by a failed attempt with cause `c`: recorded, logged, and retried unless it was the third
(R196, R197, R198, R322, R323). -/
def State.failedInto (s t : State) (c : Cause) : Prop :=
  t.lastErr = c ∧ t.log = s.log ++ [(s.attempt, c)] ∧ t.decState = .idle ∧
  (s.attempt = 3 → t.txnState = .idle ∧ t.resTag = .exhausted ∧ t.attempt = 3) ∧
  (s.attempt ≠ 3 → t.txnState = .send ∧ t.encState = .start ∧ t.attempt = s.attempt + 1)

/-- The cause of a failed attempt that a decoder error is (R193); a transport error is none. -/
def DecodeError.cause : DecodeError → Option Cause
  | .framingLen => some .framingLen
  | .framingEnd => some .framingEnd
  | .integrity => some .integrity
  | .readTimeout => some .readTimeout
  | .transport => none

/-- The cause and the rest, when `DECODE` of the answers is a failed attempt (R196). -/
def failedDecode (a : List RxAnswer) : Option (Cause × List RxAnswer) :=
  match decodeAnswers a with
  | .waiting => none
  | .ok [] r => some (.emptyReply, r)
  | .ok (_ :: _) _ => none
  | .error e r => e.cause.map fun c => (c, r)

/-- No byte is the start marker. -/
def noStart (g : List Byte) : Prop :=
  ∀ b ∈ g, b ≠ Config.startMarker

/-- One bit of a payload flipped: bit `i` of byte `k`. -/
def flipBit (p : List Byte) (k i : Nat) : List Byte :=
  p.modify k (· ^^^ (1#8 <<< i))

/-- The bytes of two payloads of one length, XORed (R137). -/
def xorBytes (p q : List Byte) : List Byte :=
  List.zipWith (· ^^^ ·) p q

/-- An axis saturated to 0 to 255 (R100). -/
def saturate (v : Int) : Int :=
  max 0 (min 255 v)

end Sys2Proof.Machine

namespace Sys2Proof

open Machine (saturate)

/-- Operands with their axes saturated. -/
def Operands.saturated : Operands → Operands
  | .empty => .empty
  | .btn m d => .btn m d
  | .stk x y d => .stk (saturate x) (saturate y) d
  | .hat dir d => .hat dir d
  | .msec d => .msec d
  | .all m lx ly rx ry dir d => .all m (saturate lx) (saturate ly) (saturate rx) (saturate ry) dir d

/-- A typed command with its axes saturated, which is what its payload says (R100, R231). -/
def Instr.saturated : Instr → Instr
  | .setAll m lx ly rx ry d => .setAll m (saturate lx) (saturate ly) (saturate rx) (saturate ry) d
  | .setAllD m lx ly rx ry d t => .setAllD m (saturate lx) (saturate ly) (saturate rx) (saturate ry) d t
  | .setLeftJoy x y => .setLeftJoy (saturate x) (saturate y)
  | .setLeftJoyD x y t => .setLeftJoyD (saturate x) (saturate y) t
  | .setRightJoy x y => .setRightJoy (saturate x) (saturate y)
  | .setRightJoyD x y t => .setRightJoyD (saturate x) (saturate y) t
  | .pressAll m lx ly rx ry d => .pressAll m (saturate lx) (saturate ly) (saturate rx) (saturate ry) d
  | .pressAllD m lx ly rx ry d t => .pressAllD m (saturate lx) (saturate ly) (saturate rx) (saturate ry) d t
  | .moveLeftJoy x y => .moveLeftJoy (saturate x) (saturate y)
  | .moveLeftJoyD x y t => .moveLeftJoyD (saturate x) (saturate y) t
  | .moveRightJoy x y => .moveRightJoy (saturate x) (saturate y)
  | .moveRightJoyD x y t => .moveRightJoyD (saturate x) (saturate y) t
  | .test => .test
  | .queryState => .queryState
  | .debug => .debug
  | .getUsbOutData => .getUsbOutData
  | .setButtons m => .setButtons m
  | .setButtonsD m t => .setButtonsD m t
  | .setHat d => .setHat d
  | .setHatD d t => .setHatD d t
  | .unsetAll => .unsetAll
  | .setDownMsec t => .setDownMsec t
  | .pressButtons m => .pressButtons m
  | .pressButtonsD m t => .pressButtonsD m t
  | .pressHat d => .pressHat d
  | .pressHatD d t => .pressHatD d t
  | .clearState => .clearState
  | .pauseMsec t => .pauseMsec t
  | .reportPending => .reportPending
  | .raw bs => .raw bs
  | .frame p c => .frame p c
  | .replyAlive bs => .replyAlive bs
  | .replyStatus n => .replyStatus n
  | .replyState f h t c irq cmd e => .replyState f h t c irq cmd e

end Sys2Proof
end

