-- ==== Sys2Proof/Certificates/Slice0/Obligations.lean ====
section
/-! DEFINITION. The statements for the provers, in OBLIGATIONS.json's order. -/

open Sys2Proof Sys2Proof.Machine

/-! ### Encoding -/

/-- Under every value of the OPEN parameters (log 12): decoding the words of a well-formed instruction at its port gives the
instruction back, and so for a command of any shape (R90, R97, R101 to R106). -/
def Obligations.DecodeEncodeRoundTrip : Prop :=
  ∀ P : Params,
    (∀ i : Instr, i.wellFormed P = true → decode P (portOf i) (encode P i) = .ok i) ∧
    (∀ c : Command, c.wellFormed P = true → decodeCommand P (build P.hat c) = .ok c)

/-- What a port's decoder accepts has exactly one spelling: encoding the instruction gives the bytes back, at the same port;
and but for the two ports that take any bytes it is well-formed; and so for the commands of any shape, under every value of
the OPEN parameters (R92, R102, R103, R107, R286; log 12). -/
def Obligations.EncodeDecodeRoundTrip : Prop :=
  ∀ P : Params,
    (∀ (p : Port) (bs : List Byte) (i : Instr), decode P p bs = .ok i →
      portOf i = p ∧ encode P i = bs ∧ (p ≠ .raw → p ≠ .reply .alive → i.wellFormed P = true)) ∧
    (∀ (bs : List Byte) (c : Command), decodeCommand P bs = .ok c →
      build P.hat c = bs ∧ c.wellFormed P = true)

/-- A typed command with any integer axes has a payload, and the payload says the command with its axes saturated to 0 to 255
(R100, R231); its shape is its opcode's under the parameters (R103, log 12). -/
def Obligations.AxesEncodeSaturated : Prop :=
  ∀ P : Params,
    (∀ i : Instr, portOf i = .typed → i.ofShape P = true → decode P .typed (encode P i) = .ok i.saturated) ∧
    (∀ c : Command, c.ofShape P = true →
      decodeCommand P (build P.hat c) = .ok ⟨c.op, c.operands.saturated⟩)

/-- Some payloads and frames written out from 43_commands' worked examples decode, at the default parameters (log 12), to the instructions they stand for. -/
def Obligations.WorkedExampleWordsDecode : Prop :=
  decode defaultParams .typed [0x54] = .ok .test ∧
  decode defaultParams .typed [0x62, 0x00, 0x04, 0x00, 0x64] = .ok (.pressButtonsD 0x0004 100) ∧
  decode defaultParams .typed [0x6C, 0xFF, 0x00] = .ok (.moveLeftJoy 255 0) ∧
  decode defaultParams .typed [0x68, 0x02, 0x03, 0xE8] = .ok (.pressHatD .right 1000) ∧
  decode defaultParams .typed [0x50, 0x50, 0x45] = .ok (.pauseMsec 20549) ∧
  decode defaultParams .typed [0x73, 0x12, 0x34, 0xFF, 0x00, 0x00, 0xFF, 0x02, 0x01, 0x00] =
    .ok (.pressAllD 0x1234 255 0 0 255 .right 256) ∧
  decode defaultParams .raw [0x54] = .ok (.raw [0x54]) ∧
  decode defaultParams .wire [0x50, 0xE1, 0x41, 0x8B, 0x45] = .ok (.frame [0x41] 0x8B) ∧
  decode defaultParams (.reply .alive) [0x41] = .ok (.replyAlive [0x41]) ∧
  decode defaultParams (.reply .status) [0x32] = .ok (.replyStatus 2) ∧
  decode defaultParams (.reply .state) [0x51, 0x01, 0x02, 0x03, 0x04, 0x00, 0x00, 0x00, 0x10, 0x00, 0x00, 0x00, 0x20, 0x05] =
    .ok (.replyState 1 2 3 4 16 32 5)

/-! ### The checksum -/

/-- R135: the checksum of the empty payload is 0, and the frame of the empty payload. -/
def Obligations.EmptyPayloadChecksum : Prop :=
  crc32 [] = 0x00000000 ∧ chk8 [] = 0x00 ∧ encodeFrame [] = [0x50, 0xF0, 0x00, 0x45]

/-- R132: the 256-entry table form of `CRC_UPDATE`, an entry being the loop on the index, is the loop. -/
def Obligations.CrcTableFormAgrees : Prop :=
  ∀ (acc : Word) (b : Byte),
    crcUpdate acc b = (acc >>> 8) ^^^ crcShifts 8 ((acc ^^^ b.setWidth 32) &&& 0xFF)

/-- R137: the checksum is affine over XOR of payloads of one length, so that the change an error pattern makes in the check
byte depends on the pattern and the length only. -/
def Obligations.ChecksumIsAffine : Prop :=
  (∀ p q : List Byte, p.length = q.length →
    crc32 (xorBytes p q) = crc32 p ^^^ crc32 q ^^^ crc32 (List.replicate p.length 0)) ∧
  (∀ p q e : List Byte, p.length = e.length → q.length = e.length →
    chk8 (xorBytes p e) ^^^ chk8 p = chk8 (xorBytes q e) ^^^ chk8 q)

/-- R138: for every payload of at most 15 bytes, flipping any one bit changes the check byte, and the frame with the old check
byte decodes to `IntegrityError`. -/
def Obligations.SingleBitPayloadErrorsAreCaught : Prop :=
  ∀ (p : List Byte) (k i : Nat) (r : List RxAnswer), p.length ≤ 15 → k < p.length → i < 8 →
    chk8 (flipBit p k i) ≠ chk8 p ∧
    decodeAnswers (byteAnswers (frameBytes (flipBit p k i) (chk8 p)) ++ r) = .error .integrity r

/-! ### The codec -/

/-- R91, R92: the length byte holds the length in its low nibble and its complement in the high one, the table of all 16; a
byte is legal exactly when its nibbles XOR to 15, and its length is then the low one; an illegal one fails the decode at once;
neither marker is legal. -/
def Obligations.LengthBytes : Prop :=
  (List.map (fun n => lenByte (BitVec.ofNat 4 n)) (List.range 16) =
    [0xF0, 0xE1, 0xD2, 0xC3, 0xB4, 0xA5, 0x96, 0x87, 0x78, 0x69, 0x5A, 0x4B, 0x3C, 0x2D, 0x1E, 0x0F]) ∧
  (∀ n : Nibble, (lenByte n).toNat = n.toNat + 16 * (15 - n.toNat) ∧ lenOfByte (lenByte n) = some n) ∧
  (∀ lb : Byte,
    lenOfByte lb = if lb.extractLsb' 4 4 ^^^ lb.extractLsb' 0 4 = 0xF then some (lb.extractLsb' 0 4) else none) ∧
  (∀ (lb : Byte) (r : List RxAnswer), lenOfByte lb = none →
    decodeAnswers (.byte 0x50 :: .byte lb :: r) = .error .framingLen r) ∧
  lenOfByte 0x50 = none ∧ lenOfByte 0x45 = none

/-- R166: decoding an encoded payload gives the payload back and leaves what follows. -/
def Obligations.DecodeInvertsEncode : Prop :=
  ∀ (p : List Byte) (r : List RxAnswer), p.length ≤ 15 → decodeAnswers (byteAnswers (encodeFrame p) ++ r) = .ok p r

/-- R167: the payload after garbage is recovered exactly when the garbage has no start marker; one byte `50` of garbage loses
the frame. -/
def Obligations.ResynchronisationAndItsLimit : Prop :=
  (∀ (g p : List Byte) (r : List RxAnswer), p.length ≤ 15 →
    (decodeAnswers (byteAnswers (g ++ encodeFrame p) ++ r) = .ok p r ↔ ∀ b ∈ g, b ≠ 0x50)) ∧
  (∀ (p : List Byte) (r : List RxAnswer),
    decodeAnswers (byteAnswers (0x50 :: encodeFrame p) ++ r) =
      .error .framingLen (byteAnswers ((encodeFrame p).drop 1) ++ r))

/-- R168: one flipped bit of a length byte fails the decode; bits `i` and `i + 4` flipped together give the length that
differs in bit `i`. -/
def Obligations.LengthByteSelfCheck : Prop :=
  (∀ (n : Nibble) (i : Nat) (r : List RxAnswer), i < 8 →
    decodeAnswers (.byte 0x50 :: .byte (lenByte n ^^^ (1#8 <<< i)) :: r) = .error .framingLen r) ∧
  (∀ (n : Nibble) (i : Nat), i < 4 →
    lenOfByte (lenByte n ^^^ (1#8 <<< i) ^^^ (1#8 <<< (i + 4))) = some (n ^^^ (1#4 <<< i)))

/-- R163: what each outcome of `DECODE` has consumed. A success is a frame found after garbage free of the start marker; each
error stands just after the byte that raised it; a timeout or fault after the bytes before it. -/
def Obligations.DecodeOutcomesAndConsumption : Prop :=
  ∀ a : List RxAnswer,
    match decodeAnswers a with
    | .ok p r => ∃ g, noStart g ∧ p.length ≤ 15 ∧ a = byteAnswers (g ++ encodeFrame p) ++ r
    | .error .framingLen r =>
      ∃ g lb, noStart g ∧ lenOfByte lb = none ∧ a = byteAnswers (g ++ [0x50, lb]) ++ r
    | .error .framingEnd r =>
      ∃ g p c t, noStart g ∧ p.length ≤ 15 ∧ t ≠ 0x45 ∧
        a = byteAnswers (g ++ [0x50, lenByte (BitVec.ofNat 4 p.length)] ++ p ++ [c, t]) ++ r
    | .error .integrity r =>
      ∃ g p c, noStart g ∧ p.length ≤ 15 ∧ c ≠ chk8 p ∧ a = byteAnswers (g ++ frameBytes p c) ++ r
    | .error .readTimeout r => ∃ x, a = byteAnswers x ++ .timeout :: r
    | .error .transport r => ∃ x, a = byteAnswers x ++ .fault :: r
    | .waiting => ∃ x, a = byteAnswers x

/-! ### The byte-serial machines against the functions -/

/-- R152, R194: with every `TxPut` answered `Ok`, the send sequence takes one step a byte, puts exactly the frame and the
trailer on the TX stream, and ends hunting for the reply, everything else unchanged. That `crc_acc` keeps the request's
checksum is log 29. -/
def Obligations.SendSequenceEmitsFrameAndTrailer : Prop :=
  ∀ (s : State) (tx : List LineAnswer),
    s.txnState = .send → s.encState = .start → s.sessState ≠ .closed → s.schedule = [] → s.cmdPhase ≠ .replyDue →
    s.txAnswers = List.replicate (s.reqLen.toNat + 6) .ok ++ tx →
    run (s.reqLen.toNat + 6) s =
      .next { s with
        encState := .idle, encIdx := s.reqLen, crcAcc := crcFold crcInitial s.request, txnState := .await,
        decState := .hunt, txAnswers := tx, txStream := s.txStream ++ sentBytes s.request, waiting := false }

/-- R165: the step machine of the decoder and the function agree on every list of answers: the same result, the same answers
consumed, and the engine's reaction to each result (R193); when the function waits, the machine stands still. -/
def Obligations.StepwiseDecodeAgreesWithFunction : Prop :=
  ∀ s : State, s.hunting →
    match decodeAnswers s.rxStream with
    | .ok (b :: q) rest =>
      ∃ k t, run k s = .next t ∧ t.rxStream = rest ∧ t.received = b :: q ∧ t.txnState = .idle ∧
        t.decState = .idle ∧ t.resTag = .success ∧ t.attempt = s.attempt ∧ t.txStream = s.txStream
    | .ok [] rest =>
      ∃ k t, run k s = .next t ∧ t.rxStream = rest ∧ s.failedInto t .emptyReply ∧ t.txStream = s.txStream
    | .error e rest =>
      match e.cause with
      | some c => ∃ k t, run k s = .next t ∧ t.rxStream = rest ∧ s.failedInto t c ∧ t.txStream = s.txStream
      | none =>
        ∃ k t, run k s = .next t ∧ t.rxStream = rest ∧ t.fatal = true ∧ t.lastErr = .transport ∧
          t.resTag = .fatal ∧ t.txnState = .idle ∧ t.decState = .idle ∧ t.txStream = s.txStream
    | .waiting =>
      ∃ k t, run k s = .next t ∧ t.rxStream = [] ∧ t.txnState = .await ∧ t.waiting = true ∧ step t = .next t

/-- R212: an admitted `EXECUTE`, run with nothing more scheduled, ends as the function `EXEC` says, or stands still where the
function waits. -/
def Obligations.ExecuteAgreesWithFunction : Prop :=
  ∀ (s : State) (p : List Byte), s.admits → p.length ≤ 15 → s.schedule = [] →
    match execAnswers p s.txAnswers s.rxStream with
    | .success q =>
      ∃ u k t, exec (.raw p) s = .next u ∧ run k u = .next t ∧ t.txnState = .idle ∧ t.resTag = .success ∧
        t.received = q ∧ t.results = s.results ++ [.success q]
    | .exhausted =>
      ∃ u k t, exec (.raw p) s = .next u ∧ run k u = .next t ∧ t.txnState = .idle ∧ t.resTag = .exhausted ∧
        t.attempt = 3 ∧ t.results = s.results ++ [.exhausted]
    | .transportFatal =>
      ∃ u k t, exec (.raw p) s = .next u ∧ run k u = .next t ∧ t.txnState = .idle ∧ t.resTag = .fatal ∧
        t.fatal = true ∧ t.results = s.results ++ [.transportFatal]
    | .waiting =>
      ∃ u k t, exec (.raw p) s = .next u ∧ run k u = .next t ∧ t.txnState ≠ .idle ∧ t.resTag = .none ∧
        step t = .next t

/-- R7, R90, R155 to R160: a frame that arrives while the block hunts with an empty input buffer, any payload of at most 15
bytes and any check byte, is taken one byte a step: after `k` steps all but its first `k` bytes are left, and after the last of
them the block stands where a frame taken whole and checked leaves it. That a whole frame arrives in one event is the model's
choice (log 14); so is that this state leaves a `COMMAND` with its reply due and nothing returned (log 5). What `crc_acc` keeps
after the frame, and `rx_buf`, `dec_len`, `dec_idx` and `dec_chk` after a failed decode, is the model's too (log 29). -/
def Obligations.FrameReceptionAgreesWithBytes : Prop :=
  ∀ (s : State) (p : List Byte) (c : Byte), s.hunting → s.inputBuffer = [] → p.length ≤ 15 →
    ∃ u, exec (.frame p c) s = .next u ∧
      (∀ k, k ≤ p.length + 4 → ∃ v, run k u = .next v ∧ v.inputBuffer = (frameBytes p c).drop k) ∧
      run (p.length + 4) u = .next (s.takeFrame p c).endFrame

/-- R205: when the three decodes of a transaction all fail and no fault occurs, the block makes exactly three attempts, puts
the request on the TX stream exactly three times, logs the three causes and ends exhausted. -/
def Obligations.ThreeFailuresExhaust : Prop :=
  ∀ (s : State) (p : List Byte) (tx : List LineAnswer) (c1 c2 c3 : Cause) (a1 a2 a3 : List RxAnswer),
    s.admits → p.length ≤ 15 → s.schedule = [] →
    s.txAnswers = List.replicate (3 * (p.length + 6)) .ok ++ tx →
    failedDecode s.rxStream = some (c1, a1) → failedDecode a1 = some (c2, a2) → failedDecode a2 = some (c3, a3) →
    ∃ u k t, exec (.raw p) s = .next u ∧ run k u = .next t ∧ t.txnState = .idle ∧ t.resTag = .exhausted ∧
      t.attempt = 3 ∧ t.lastErr = c3 ∧ t.log = s.log ++ [(1, c1), (2, c2), (3, c3)] ∧
      t.txStream = s.txStream ++ sentBytes p ++ sentBytes p ++ sentBytes p ∧ t.txAnswers = tx ∧ t.rxStream = a3

/-! ### The invariant -/

/-- The invariant holds at reset. -/
def Obligations.InvariantHoldsAfterReset : Prop :=
  State.reset.Inv

/-- Every step keeps the invariant: the sequencers agree with `txn_state` (R26), the indices stay inside their lengths
(R23, R60), the accumulator covers the bytes so far (R132), `attempt` is 1 to 3 in a transaction (R27), a success carries a
byte (R28), `last_err` and `rpl_status` hold codes of their ranges (R310, R34); the model's own control position agrees with
`txn_state` (logs 4 and 5), after a reset during a transport call too (log 31). And no step writes the parameters (log 12). -/
def Obligations.StepKeepsTheInvariant : Prop :=
  ∀ s t : State, s.Inv → step s = .next t → t.Inv ∧ t.params = s.params

/-- Under the invariant no step faults: no access falls outside a buffer (R60). -/
def Obligations.NoFaultUnderTheInvariant : Prop :=
  ∀ (s : State) (f : Fault), s.Inv → step s ≠ .fault f

/-- A step is refused only for words at the typed port that are no typed command, for a typed command called with operands that
are not of its opcode's shape, or for a frame or a reply handed over as a host operation (U13, R38; log 19). -/
def Obligations.OnlyForeignEventsAreRefused : Prop :=
  ∀ (s : State) (r : Refusal), step s = .refused r →
    ∃ e rest, s.schedule = e :: rest ∧
      ((∃ bs rej, e = .words .typed bs ∧ decodeCommand s.params bs = .error rej ∧ r = .undecodable rej) ∨
       (r = .notOfShape ∧
        ((∃ c, e = .command c ∧ shapeOf s.params c.op ≠ some c.operands.shape) ∨
         (∃ i c, e = .call i ∧ commandOf i = some c ∧ shapeOf s.params c.op ≠ some c.operands.shape))) ∨
       (r = .notHostOperation ∧
        ((∃ c bs, e = .words (.reply c) bs) ∨ (∃ i, e = .call i ∧ portOf i ≠ .typed ∧ portOf i ≠ .raw))))

/-! ### A step runs the decoded instruction -/

/-- When the host's next event presents words that decode at the typed port, the raw port or the wire, or calls a raw command or
a typed one of its opcode's shape, the step is that instruction's meaning on the state with the event taken. So it is for a
command, called or presented as words: the step is the meaning of the row of the opcode table it is, and for a command of any
shape, row or none, `COMMAND` of its words (R103, R209). At the default parameters every row is of its opcode's shape. That
bytes arriving on the wire are an event of the schedule is the model's choice (log 13), and so is that exactly one frame's bytes
in one event are the one instruction `frame`, whose step is their arrival (log 14). -/
def Obligations.StepRunsTheDecodedInstruction : Prop :=
  (∀ (s : State) (rest : List HostEvent) (p : Port) (bs : List Byte) (i : Instr),
    s.schedule = .words p bs :: rest → s.cmdPhase ≠ .replyDue → (p = .typed ∨ p = .raw ∨ p = .wire) →
    decode s.params p bs = .ok i → step s = exec i { s with schedule := rest }) ∧
  (∀ (s : State) (rest : List HostEvent) (i : Instr),
    s.schedule = .call i :: rest → s.cmdPhase ≠ .replyDue →
    (portOf i = .typed ∧ i.ofShape s.params = true ∨ portOf i = .raw) →
    step s = exec i { s with schedule := rest }) ∧
  (∀ (s : State) (rest : List HostEvent) (c : Command), s.cmdPhase ≠ .replyDue →
    (s.schedule = .command c :: rest ∧ c.ofShape s.params = true ∨
     ∃ bs, s.schedule = .words .typed bs :: rest ∧ decodeCommand s.params bs = .ok c) →
    (∀ i, commandOf i = some c → step s = exec i { s with schedule := rest }) ∧
    step s = .next ({ s with schedule := rest }.command (build s.params.hat c))) ∧
  (∀ i : Instr, i.ofShape defaultParams = true)

/-- When a `COMMAND` is at R209's line 5 after a success and its reply decodes under the class of `cur_op`, the step is that
reply's meaning; the host's next event is left for the step after. That the reply is decoded in a step of its own is the model's
choice (log 5). -/
def Obligations.StepRunsTheDecodedReply : Prop :=
  ∀ (s : State) (c : ReplyClass) (i : Instr),
    s.replyReady c → decode s.params (.reply c) s.received = .ok i → step s = exec i s

/-! ### Admission and the commands -/

/-- R191: the tests of `EXECUTE` in their order, and what each leaves. -/
def Obligations.ExecuteAdmission : Prop :=
  ∀ (s : State) (p : List Byte),
    (s.txnState ≠ .idle → exec (.raw p) s = .next { s with results := s.results ++ [.refused .busy] }) ∧
    (s.txnState = .idle → 15 < p.length →
      exec (.raw p) s = .next { s with results := s.results ++ [.refused .payloadTooLong] }) ∧
    (s.txnState = .idle → p.length ≤ 15 →
      (s.fatal = true ∨ s.sessState = .closed ∨ s.sessState = .opened) →
      exec (.raw p) s =
        .next { s with
          resTag := .fatal, lastErr := .transport, cmdPhase := .none,
          results := s.results ++ [.transportFatal] }) ∧
    (s.admits → p.length ≤ 15 → exec (.raw p) s = .next { s.started p with cmdPhase := .none })

/-- R204: while a transaction is in progress every typed command, of any shape, every `EXECUTE` and `SESSION_OPEN` is refused
with `BUSY` and nothing else changes. -/
def Obligations.BusyOperationsAreRefused : Prop :=
  ∀ s : State, s.txnState ≠ .idle →
    (∀ i : Instr, portOf i = .typed ∨ portOf i = .raw →
      exec i s = .next { s with results := s.results ++ [.refused .busy] }) ∧
    (∀ (c : Command) (rest : List HostEvent),
      s.cmdPhase ≠ .replyDue → s.schedule = .command c :: rest → c.ofShape s.params = true →
      step s = .next { s with schedule := rest, results := s.results ++ [.refused .busy] }) ∧
    (∀ (d : List Byte) (b : Nat) (rest : List HostEvent),
      s.cmdPhase ≠ .replyDue → s.schedule = .sessionOpen d b :: rest →
      step s = .next { s with schedule := rest, results := s.results ++ [.refused .busy] })

/-- R209, R191 test 3: a typed command, of any shape, on a Session that is not usable ends fatally with no byte moved and
`attempt` kept; `cur_op` and `rpl_kind` are written all the same, and the outcome returned is `TransportFatal`, not an answer
(R280). That the registers are written in one step and `TransportFatal` is returned by the step after is the model's choice
(log 5): R191 gives it at once. -/
def Obligations.CommandOnUnusableLineIsFatal : Prop :=
  ∀ s : State, s.txnState = .idle → (s.fatal = true ∨ s.sessState = .closed ∨ s.sessState = .opened) →
    (∀ i : Instr, portOf i = .typed → s.noReset →
      ∃ op ops u, encode s.params i = op :: ops ∧ exec i s = .next u ∧
        u = { s with
          curOp := op, rplKind := .none, cmdPhase := .replyDue, resTag := .fatal, lastErr := .transport } ∧
        step u = .next { u with cmdPhase := .none, results := s.results ++ [.transportFatal] }) ∧
    (∀ (c : Command) (rest : List HostEvent),
      s.schedule = .command c :: rest → s.cmdPhase ≠ .replyDue → c.ofShape s.params = true →
      (∀ later, rest ≠ .reset :: later) →
      ∃ u, step s = .next u ∧
        u = { s with
          schedule := rest, curOp := c.op, rplKind := .none, cmdPhase := .replyDue, resTag := .fatal,
          lastErr := .transport } ∧
        step u = .next { u with cmdPhase := .none, results := s.results ++ [.transportFatal] })

/-- R192, R22: an admitted `EXECUTE` leaves the payload in `req_buf[0..req_len-1]` and the bytes of `req_buf` after it as they
were. -/
def Obligations.LatchStoresTheRequest : Prop :=
  ∀ (s : State) (p : List Byte), s.admits → p.length ≤ 15 →
    ∃ t, exec (.raw p) s = .next t ∧ t.request = p ∧ t.reqLen.toNat = p.length ∧
      ∀ k, p.length ≤ k → t.reqBuf.toList[k]? = s.reqBuf.toList[k]?

/-- R240 to R243, R249, R256, R258, R233: the operand-free commands, admitted, start the transaction of their one byte; so does
a command of any opcode whose shape is `EMPTY` (R103). -/
def Obligations.PlainCommandsStart : Prop :=
  ∀ s : State, s.admits →
    (∀ op rest, s.schedule = .command ⟨op, .empty⟩ :: rest → s.cmdPhase ≠ .replyDue →
      shapeOf s.params op = some .empty → step s = .next ({ s with schedule := rest }.startedCommand op [])) ∧
    exec .test s = .next (s.startedCommand 0x54 []) ∧
    exec .queryState s = .next (s.startedCommand 0x51 []) ∧
    exec .debug s = .next (s.startedCommand 0x44 []) ∧
    exec .getUsbOutData s = .next (s.startedCommand 0x4F []) ∧
    exec .unsetAll s = .next (s.startedCommand 0x55 []) ∧
    exec .clearState s = .next (s.startedCommand 0x43 []) ∧
    exec .reportPending s = .next (s.startedCommand 0x70 [])

/-- R245, R252, R234: the button commands, admitted, start the transaction of the mask, high byte first, then the duration if
given; so does a command of any opcode whose shape is `BTN` (R103). -/
def Obligations.ButtonCommandsStart : Prop :=
  ∀ (s : State) (mask msec : Half), s.admits →
    (∀ op rest, s.cmdPhase ≠ .replyDue → shapeOf s.params op = some .btn →
      (s.schedule = .command ⟨op, .btn mask none⟩ :: rest →
        step s = .next ({ s with schedule := rest }.startedCommand op
          [mask.extractLsb' 8 8, mask.extractLsb' 0 8])) ∧
      (s.schedule = .command ⟨op, .btn mask (some msec)⟩ :: rest →
        step s = .next ({ s with schedule := rest }.startedCommand op
          [mask.extractLsb' 8 8, mask.extractLsb' 0 8, msec.extractLsb' 8 8, msec.extractLsb' 0 8]))) ∧
    exec (.setButtons mask) s = .next (s.startedCommand 0x42 [mask.extractLsb' 8 8, mask.extractLsb' 0 8]) ∧
    exec (.setButtonsD mask msec) s =
      .next (s.startedCommand 0x42
        [mask.extractLsb' 8 8, mask.extractLsb' 0 8, msec.extractLsb' 8 8, msec.extractLsb' 0 8]) ∧
    exec (.pressButtons mask) s = .next (s.startedCommand 0x62 [mask.extractLsb' 8 8, mask.extractLsb' 0 8]) ∧
    exec (.pressButtonsD mask msec) s =
      .next (s.startedCommand 0x62
        [mask.extractLsb' 8 8, mask.extractLsb' 0 8, msec.extractLsb' 8 8, msec.extractLsb' 0 8])

/-- R246, R247, R253, R254, R235: the stick commands, admitted, start the transaction of `x` then `y`, each saturated to a
byte, then the duration if given; so does a command of any opcode whose shape is `STK` (R103). -/
def Obligations.StickCommandsStart : Prop :=
  ∀ (s : State) (x y : Int) (msec : Half), s.admits →
    let xb := BitVec.ofInt 8 (saturate x)
    let yb := BitVec.ofInt 8 (saturate y)
    (∀ op rest, s.cmdPhase ≠ .replyDue → shapeOf s.params op = some .stk →
      (s.schedule = .command ⟨op, .stk x y none⟩ :: rest →
        step s = .next ({ s with schedule := rest }.startedCommand op [xb, yb])) ∧
      (s.schedule = .command ⟨op, .stk x y (some msec)⟩ :: rest →
        step s = .next ({ s with schedule := rest }.startedCommand op
          [xb, yb, msec.extractLsb' 8 8, msec.extractLsb' 0 8]))) ∧
    exec (.setLeftJoy x y) s = .next (s.startedCommand 0x4C [xb, yb]) ∧
    exec (.setLeftJoyD x y msec) s =
      .next (s.startedCommand 0x4C [xb, yb, msec.extractLsb' 8 8, msec.extractLsb' 0 8]) ∧
    exec (.setRightJoy x y) s = .next (s.startedCommand 0x52 [xb, yb]) ∧
    exec (.setRightJoyD x y msec) s =
      .next (s.startedCommand 0x52 [xb, yb, msec.extractLsb' 8 8, msec.extractLsb' 0 8]) ∧
    exec (.moveLeftJoy x y) s = .next (s.startedCommand 0x6C [xb, yb]) ∧
    exec (.moveLeftJoyD x y msec) s =
      .next (s.startedCommand 0x6C [xb, yb, msec.extractLsb' 8 8, msec.extractLsb' 0 8]) ∧
    exec (.moveRightJoy x y) s = .next (s.startedCommand 0x72 [xb, yb]) ∧
    exec (.moveRightJoyD x y msec) s =
      .next (s.startedCommand 0x72 [xb, yb, msec.extractLsb' 8 8, msec.extractLsb' 0 8])

/-- R248, R255, R236: the hat commands, admitted, start the transaction of the direction's code in `HAT_CODE`, then the
duration if given; so does a command of any opcode whose shape is `HAT` (R103). `HAT_CODE` is a parameter of nine distinct codes
(log 12), by default 0 to 8, clockwise from up, then center (R101). -/
def Obligations.HatCommandsStart : Prop :=
  List.map (hatCode defaultParams.hat)
      [.up, .upRight, .right, .downRight, .down, .downLeft, .left, .upLeft, .center] =
    [0, 1, 2, 3, 4, 5, 6, 7, 8] ∧
  (∀ (t : HatTable) (d e : Direction), hatCode t d = hatCode t e → d = e) ∧
  ∀ (s : State) (dir : Direction) (msec : Half), s.admits →
    let code := hatCode s.params.hat dir
    (∀ op rest, s.cmdPhase ≠ .replyDue → shapeOf s.params op = some .hat →
      (s.schedule = .command ⟨op, .hat dir none⟩ :: rest →
        step s = .next ({ s with schedule := rest }.startedCommand op [code])) ∧
      (s.schedule = .command ⟨op, .hat dir (some msec)⟩ :: rest →
        step s = .next ({ s with schedule := rest }.startedCommand op
          [code, msec.extractLsb' 8 8, msec.extractLsb' 0 8]))) ∧
    exec (.setHat dir) s = .next (s.startedCommand 0x48 [code]) ∧
    exec (.setHatD dir msec) s =
      .next (s.startedCommand 0x48 [code, msec.extractLsb' 8 8, msec.extractLsb' 0 8]) ∧
    exec (.pressHat dir) s = .next (s.startedCommand 0x68 [code]) ∧
    exec (.pressHatD dir msec) s =
      .next (s.startedCommand 0x68 [code, msec.extractLsb' 8 8, msec.extractLsb' 0 8])

/-- R250, R257, R237: the duration commands, admitted, start the transaction of the duration, high byte first; so
does a command of any opcode whose shape is `MSEC` (R103). -/
def Obligations.DurationCommandsStart : Prop :=
  ∀ (s : State) (msec : Half), s.admits →
    (∀ op rest, s.schedule = .command ⟨op, .msec msec⟩ :: rest → s.cmdPhase ≠ .replyDue →
      shapeOf s.params op = some .msec →
      step s = .next ({ s with schedule := rest }.startedCommand op
        [msec.extractLsb' 8 8, msec.extractLsb' 0 8])) ∧
    exec (.setDownMsec msec) s = .next (s.startedCommand 0x4D [msec.extractLsb' 8 8, msec.extractLsb' 0 8]) ∧
    exec (.pauseMsec msec) s = .next (s.startedCommand 0x50 [msec.extractLsb' 8 8, msec.extractLsb' 0 8])

/-- R244, R251, R238: the whole-pad commands, admitted, start the transaction of mask, left stick, right stick, hat, each axis
saturated on its own, then the duration if given; so does a command of any opcode whose shape is `ALL` (R103). -/
def Obligations.WholePadCommandsStart : Prop :=
  ∀ (s : State) (mask : Half) (lx ly rx ry : Int) (dir : Direction) (msec : Half), s.admits →
    let pad := [mask.extractLsb' 8 8, mask.extractLsb' 0 8, BitVec.ofInt 8 (saturate lx), BitVec.ofInt 8 (saturate ly),
      BitVec.ofInt 8 (saturate rx), BitVec.ofInt 8 (saturate ry), hatCode s.params.hat dir]
    let dur := [msec.extractLsb' 8 8, msec.extractLsb' 0 8]
    (∀ op rest, s.cmdPhase ≠ .replyDue → shapeOf s.params op = some .all →
      (s.schedule = .command ⟨op, .all mask lx ly rx ry dir none⟩ :: rest →
        step s = .next ({ s with schedule := rest }.startedCommand op pad)) ∧
      (s.schedule = .command ⟨op, .all mask lx ly rx ry dir (some msec)⟩ :: rest →
        step s = .next ({ s with schedule := rest }.startedCommand op (pad ++ dur)))) ∧
    exec (.setAll mask lx ly rx ry dir) s = .next (s.startedCommand 0x53 pad) ∧
    exec (.setAllD mask lx ly rx ry dir msec) s = .next (s.startedCommand 0x53 (pad ++ dur)) ∧
    exec (.pressAll mask lx ly rx ry dir) s = .next (s.startedCommand 0x73 pad) ∧
    exec (.pressAllD mask lx ly rx ry dir msec) s = .next (s.startedCommand 0x73 (pad ++ dur))

/-! ### Frames received -/

/-- R7, R155 to R160, R199: a valid frame with a payload that arrives while the block hunts with an empty input buffer ends the
transaction in success with the step that takes its last byte: the payload is in `rx_buf[0..dec_len-1]`, the bytes after it are
as they were, and the payload goes to the host, or to the `COMMAND` in progress. That a `COMMAND` then has its reply due, with
nothing decoded and nothing returned in that step, is the model's choice (log 5), and so is that a whole frame arrives in one
event (log 14). That `crc_acc` keeps the payload's checksum is log 29. -/
def Obligations.ValidFrameReceivedIsSuccess : Prop :=
  ∀ (s : State) (p : List Byte), s.hunting → s.inputBuffer = [] → p ≠ [] → p.length ≤ 15 →
    ∃ u t, exec (.frame p (chk8 p)) s = .next u ∧ run (p.length + 4) u = .next t ∧ t.received = p ∧
      (∀ k, p.length ≤ k → t.rxBuf.toList[k]? = s.rxBuf.toList[k]?) ∧
      (s.cmdPhase = .running → t.cmdPhase = .replyDue ∧ t.results = s.results) ∧
      (s.cmdPhase = .none → t.cmdPhase = .none ∧ t.results = s.results ++ [.success p]) ∧
      t = { s with
        decLen := BitVec.ofNat 4 p.length, decIdx := BitVec.ofNat 4 p.length, rxBuf := t.rxBuf, decChk := chk8 p,
        crcAcc := crcFold crcInitial p, decState := .idle, resTag := .success, txnState := .idle, waiting := false,
        cmdPhase := t.cmdPhase, results := t.results }

/-- R7, R159, R196, R315: a frame with a wrong check byte, or a valid empty one, that arrives while the block hunts with an empty
input buffer is a failed attempt with the step that takes its last byte. That a whole frame arrives in one event is log 14. -/
def Obligations.CorruptOrEmptyFrameFails : Prop :=
  ∀ (s : State) (p : List Byte) (c : Byte), s.hunting → s.inputBuffer = [] → p.length ≤ 15 →
    (c ≠ chk8 p →
      ∃ u t, exec (.frame p c) s = .next u ∧ run (p.length + 4) u = .next t ∧ s.failedInto t .integrity) ∧
    (c = chk8 [] →
      ∃ u t, exec (.frame [] c) s = .next u ∧ run 4 u = .next t ∧ s.failedInto t .emptyReply)

/-- R7, R36, R69, R320 (a): in every state the bytes of a frame arrive in the transport's input buffer, behind what is there, and
nothing else changes: the block takes none of them in the step of their arrival. A payload longer than 15 bytes has no frame
(R151). That a whole frame arrives in one event, and that the term without a frame is refused, is the model's choice (log 14). -/
def Obligations.FrameArrivesInTheInputBuffer : Prop :=
  ∀ (s : State) (p : List Byte) (c : Byte),
    (p.length ≤ 15 →
      exec (.frame p c) s = .next { s with inputBuffer := s.inputBuffer ++ frameBytes p c }) ∧
    (15 < p.length → exec (.frame p c) s = .next { s with results := s.results ++ [.refused .payloadTooLong] })

/-! ### Replies -/

/-- R281: the reply to a command of class `ALIVE` is an answer whatever its bytes, yes exactly for the one byte `41`; an
exhausted one is answered no and keeps its tag. `T` is of that class whatever the parameters. -/
def Obligations.AliveReplyIsAnAnswer : Prop :=
  (∀ (s : State) (q : List Byte),
    exec (.replyAlive q) s =
      .next { s with
        rplAlive := decide (q = [0x41]), rplKind := .alive, cmdPhase := .none,
        results := s.results ++ [.alive (decide (q = [0x41]))] }) ∧
  (∀ s : State, s.replyReady .alive →
    step s =
      .next { s with
        rplAlive := decide (s.received = [0x41]), rplKind := .alive, cmdPhase := .none,
        results := s.results ++ [.alive (decide (s.received = [0x41]))] }) ∧
  (∀ s : State, s.cmdPhase = .replyDue → s.noReset → s.resTag = .exhausted → replyClass s.params s.curOp = .alive →
    step s =
      .next { s with
        rplAlive := false, rplKind := .alive, cmdPhase := .none, results := s.results ++ [.alive false] }) ∧
  (∀ P : Params, replyClass P 0x54 = .alive)

/-- R282, R286, R105: a one-byte `STATUS` reply of a status code's byte gives its code, and any other payload is a violation;
the bytes are `STATUS_BASE` to `STATUS_BASE + 9`, by default 30 to 39 (log 12). That the term `replyStatus` with a code above 9
means a violation too is read from R286 by inference (log 27): no payload stands for that term. -/
def Obligations.StatusReplyDecodes : Prop :=
  (defaultParams.statusBase : Nat) = 0x30 ∧
  (∀ (s : State) (n : Nibble), 9 < n.toNat → exec (.replyStatus n) s = .next s.violated) ∧
  (∀ (s : State) (n : Nibble), n.toNat ≤ 9 →
    exec (.replyStatus n) s =
      .next { s with
        rplStatus := n, rplKind := .status, cmdPhase := .none, results := s.results ++ [.status n] }) ∧
  (∀ (s : State) (n : Nat), n ≤ 9 → s.replyReady .status →
    s.received = [BitVec.ofNat 8 (s.params.statusBase + n)] →
    step s =
      .next { s with
        rplStatus := BitVec.ofNat 4 n, rplKind := .status, cmdPhase := .none,
        results := s.results ++ [.status (BitVec.ofNat 4 n)] }) ∧
  (∀ s : State, s.replyReady .status →
    (∀ n, n ≤ 9 → s.received ≠ [BitVec.ofNat 8 (s.params.statusBase + n)]) →
    step s = .next s.violated)

/-- R283, R284: a 14-byte `STATE` reply that echoes `Q` gives the seven fields, the counters big-endian, `configured` bit 0 of
the flags; any other payload is a violation. -/
def Obligations.StateReplyDecodes : Prop :=
  (∀ (s : State) (f h t c e : Byte) (irq cmd : Word),
    exec (.replyState f h t c irq cmd e) s =
      .next { s with
        rplFlags := f, rplHead := h, rplTail := t, rplCount := c, rplIrqCnt := irq, rplCmdCnt := cmd,
        rplEchoCount := e, rplKind := .state, cmdPhase := .none,
        results := s.results ++ [.state f (decide (f.toNat % 2 = 1)) h t c irq cmd e] }) ∧
  (∀ (s : State) (f h t c e i3 i2 i1 i0 c3 c2 c1 c0 : Byte), s.replyReady .state →
    s.received = [0x51, f, h, t, c, i3, i2, i1, i0, c3, c2, c1, c0, e] →
    ∃ irq cmd : Word,
      irq.toNat = i3.toNat * 2 ^ 24 + i2.toNat * 2 ^ 16 + i1.toNat * 2 ^ 8 + i0.toNat ∧
      cmd.toNat = c3.toNat * 2 ^ 24 + c2.toNat * 2 ^ 16 + c1.toNat * 2 ^ 8 + c0.toNat ∧
      step s =
        .next { s with
          rplFlags := f, rplHead := h, rplTail := t, rplCount := c, rplIrqCnt := irq, rplCmdCnt := cmd,
          rplEchoCount := e, rplKind := .state, cmdPhase := .none,
          results := s.results ++ [.state f (decide (f.toNat % 2 = 1)) h t c irq cmd e] }) ∧
  (∀ s : State, s.replyReady .state → (s.received.length ≠ 14 ∨ s.received.head? ≠ some 0x51) →
    step s = .next s.violated)

/-- R286: the complete list of conditions of a protocol violation, for a reply of any class; what it records, and that no reply
register, tag or buffer changes. The status codes' bytes begin at `STATUS_BASE`, by default 30 (R105, log 12). -/
def Obligations.ProtocolViolationConditions : Prop :=
  (defaultParams.statusBase : Nat) = 0x30 ∧
  ∀ (s : State) (c : ReplyClass), s.replyReady c →
    (step s = .next s.violated ↔
      (c = .status ∧ s.received.length ≠ 1) ∨
      (c = .status ∧ ∃ b, s.received = [b] ∧ (b.toNat < s.params.statusBase ∨ s.params.statusBase + 9 < b.toNat)) ∨
      (c = .state ∧ s.received.length ≠ 14) ∨
      (c = .state ∧ s.received.length = 14 ∧ s.received.head? ≠ some 0x51))

/-- R280: the outcome of a `COMMAND` whose transaction did not succeed: `TransportFatal` is never an answer, `Exhausted` is one
only for class `ALIVE`; `rpl_kind` and the reply registers stay. At the default parameters (log 12) no byte but `T` is of
class `ALIVE`; that the 237 bytes outside the catalog are of another class is the model's choice (log 21): R106 gives them
none. -/
def Obligations.UnsuccessfulCommandsReturn : Prop :=
  (∀ op : Byte, op ≠ 0x54 → replyClass defaultParams op ≠ .alive) ∧
  ∀ s : State, s.cmdPhase = .replyDue → s.noReset →
    (s.resTag = .fatal →
      step s = .next { s with cmdPhase := .none, results := s.results ++ [.transportFatal] }) ∧
    (s.resTag = .exhausted → replyClass s.params s.curOp ≠ .alive →
      step s = .next { s with cmdPhase := .none, results := s.results ++ [.exhausted] })

/-! ### Failed attempts, faults and the Session -/

/-- R161, R322, R197, R198: a timeout in any state of the decoder is recorded and logged and nothing else is; an earlier attempt
than the third is followed by the next one, the third ends the transaction exhausted, for the host or for the `COMMAND` in
progress. The Session is open, or was closed while the call was in progress, which the model's bit `waiting` says (log 4). That
the third timeout leaves a `COMMAND` with its reply due, and the outcome is returned by a later step, is the model's choice
(log 5). That the buffer and the registers of the broken frame keep their contents is log 29. -/
def Obligations.TimeoutIsAFailedAttempt : Prop :=
  ∀ (s : State) (rest : List RxAnswer),
    s.Inv → s.txnState = .await → (s.sessState ≠ .closed ∨ s.waiting = true) → s.schedule = [] →
    s.inputBuffer = [] → s.rxAnswers = .timeout :: rest →
    (s.attempt ≠ 3 →
      step s =
        .next { s with
          rxAnswers := rest, waiting := false, decState := .idle, lastErr := .readTimeout,
          log := s.log ++ [(s.attempt, .readTimeout)], attempt := s.attempt + 1, txnState := .send,
          encState := .start }) ∧
    (s.attempt = 3 → s.cmdPhase = .none →
      step s =
        .next { s with
          rxAnswers := rest, waiting := false, decState := .idle, lastErr := .readTimeout,
          log := s.log ++ [(3, .readTimeout)], resTag := .exhausted, txnState := .idle,
          results := s.results ++ [.exhausted] }) ∧
    (s.attempt = 3 → s.cmdPhase = .running →
      step s =
        .next { s with
          rxAnswers := rest, waiting := false, decState := .idle, lastErr := .readTimeout,
          log := s.log ++ [(3, .readTimeout)], resTag := .exhausted, txnState := .idle,
          cmdPhase := .replyDue })

/-- R200: a `Fault` answered to a `TxPut` or an `RxTake` at any point of any attempt ends the transaction fatally, whatever
`attempt` is; no byte is put, and nothing but the fault is consumed. The Session is open, or was closed while the call was in
progress, which the model's bit `waiting` says (log 4). That a `COMMAND` is left with its reply due, and its `TransportFatal` is
returned by a later step, is the model's choice (log 5): R200 returns it in this one. That the buffer and the registers of a
broken frame keep their contents is log 29. -/
def Obligations.TransportFaultIsFatal : Prop :=
  ∀ s : State, s.Inv → s.schedule = [] → (s.sessState ≠ .closed ∨ s.waiting = true) →
    ((∃ rest, s.txnState = .send ∧ s.txAnswers = .fault :: rest) ∨
     (∃ rest, s.txnState = .await ∧ s.inputBuffer = [] ∧ s.rxAnswers = .fault :: rest)) →
    ∃ t, step s = .next t ∧
      (s.txnState = .send → t.txAnswers = s.txAnswers.tail ∧ t.rxAnswers = s.rxAnswers) ∧
      (s.txnState = .await → t.rxAnswers = s.rxAnswers.tail ∧ t.txAnswers = s.txAnswers) ∧
      (s.cmdPhase = .none → t.cmdPhase = .none ∧ t.results = s.results ++ [.transportFatal]) ∧
      (s.cmdPhase = .running → t.cmdPhase = .replyDue ∧ t.results = s.results) ∧
      t = { s with
        fatal := true, lastErr := .transport, resTag := .fatal, encState := .idle, decState := .idle,
        txnState := .idle, waiting := false, txAnswers := t.txAnswers, rxAnswers := t.rxAnswers,
        cmdPhase := t.cmdPhase, results := t.results }

/-- R207: `SESSION_CLOSE` in every state of the transaction: nothing happens to a closed Session; any other is closed, the
transport is asked to close, and nothing else is cleared. That the host is given the result `closed`, in both cases, is the
model's choice (log 32): R207 names no result. -/
def Obligations.SessionCloseCases : Prop :=
  ∀ (s : State) (rest : List HostEvent), s.schedule = .sessionClose :: rest → s.cmdPhase ≠ .replyDue →
    (s.sessState = .closed →
      step s = .next { s with schedule := rest, results := s.results ++ [.closed] }) ∧
    (s.sessState ≠ .closed →
      step s =
        .next { s with
          schedule := rest, sessState := .closed, calls := s.calls ++ [.closeLine],
          results := s.results ++ [.closed] })

/-- R208: a transaction whose Session is closed, with no transport call in progress, ends fatally at its next step of its own,
and that step makes no call: no answer is taken and no byte put. That no call is in progress is the model's bit `waiting`
(log 4). That a `COMMAND` is left with its reply due, and its `TransportFatal` is returned by a later step, is the model's choice
(log 5): R200 returns it in this one. That the buffer and the registers of a broken frame keep their contents is log 29. -/
def Obligations.CloseEndsTheTransaction : Prop :=
  ∀ s : State, s.Inv → s.txnState ≠ .idle → s.sessState = .closed → s.waiting = false → s.schedule = [] →
    ∃ t, step s = .next t ∧
      (s.cmdPhase = .none → t.cmdPhase = .none ∧ t.results = s.results ++ [.transportFatal]) ∧
      (s.cmdPhase = .running → t.cmdPhase = .replyDue ∧ t.results = s.results) ∧
      t = { s with
        fatal := true, lastErr := .transport, resTag := .fatal, encState := .idle, decState := .idle,
        txnState := .idle, cmdPhase := t.cmdPhase, results := t.results }

/-- R206: every branch of `SESSION_OPEN` from its step 2 on. A reset of the input buffer answered `Fault` is not stated to
leave the buffer or to empty it (log 10). That the operation is one step is the model's choice (log 8), and so is the order of
the two buffer resets in `calls`, the input buffer's first: the spec leaves that order open (U15). The result `opened` of an
open that succeeds is the model's too (log 32): R206 names none. So is that the buffer is empty after it although bytes arrived
between the answers of the two resets (log 33). -/
def Obligations.SessionOpenCases : Prop :=
  ∀ (s : State) (d : List Byte) (b : Nat) (rest : List HostEvent),
    s.schedule = .sessionOpen d b :: rest → s.cmdPhase ≠ .replyDue → s.txnState = .idle →
    (s.sessState ≠ .closed →
      step s = .next { s with schedule := rest, results := s.results ++ [.refused .badSessionOp] }) ∧
    (∀ la, s.sessState = .closed → s.lineAnswers = .fault :: la →
      step s =
        .next { s with
          schedule := rest, lineAnswers := la, fatal := true, lastErr := .transport,
          calls := s.calls ++ [.openLine d b], results := s.results ++ [.transportError] }) ∧
    (∀ r1 r2 la, s.sessState = .closed → s.lineAnswers = .ok :: r1 :: r2 :: la → (r1 = .fault ∨ r2 = .fault) →
      ∃ t, step s = .next t ∧
        t = { s with
          schedule := rest, lineAnswers := la, sessState := .opened, fatal := true, lastErr := .transport,
          inputBuffer := t.inputBuffer,
          calls := s.calls ++ [.openLine d b, .resetInputBuffer, .resetOutputBuffer],
          results := s.results ++ [.transportError] }) ∧
    (∀ la, s.sessState = .closed → s.lineAnswers = .ok :: .ok :: .ok :: la →
      step s =
        .next { s with
          schedule := rest, lineAnswers := la, sessState := .cleared, fatal := false, inputBuffer := [],
          calls := s.calls ++ [.openLine d b, .resetInputBuffer, .resetOutputBuffer],
          results := s.results ++ [.opened] })

/-- R360, R362: reset is one step in any state; every register R39 gives a value takes it, and the transport's answers and
buffers, the TX stream, the outputs and the parameters (log 12) are not touched. What becomes of a `TxPut` or `RxTake` in
progress is the model's choice (log 31) and is not stated. -/
def Obligations.ResetEventFromAnyState : Prop :=
  ∀ (s : State) (rest : List HostEvent), s.schedule = .reset :: rest →
    ∃ t, step s = .next t ∧
      t.crcAcc = 0xFFFFFFFF ∧ t.reqLen = 0 ∧ t.encState = .idle ∧ t.encIdx = 0 ∧ t.decState = .idle ∧
      t.decLen = 0 ∧ t.decIdx = 0 ∧ t.decChk = 0 ∧ t.txnState = .idle ∧ t.attempt = 0 ∧ t.resTag = .none ∧
      t.lastErr = .none ∧ t.fatal = false ∧ t.sessState = .closed ∧ t.curOp = 0x00 ∧ t.rplKind = .none ∧
      t.rplAlive = false ∧ t.rplStatus = 0 ∧
      t.schedule = rest ∧ t.inputBuffer = s.inputBuffer ∧ t.rxAnswers = s.rxAnswers ∧ t.txAnswers = s.txAnswers ∧
      t.lineAnswers = s.lineAnswers ∧ t.txStream = s.txStream ∧ t.log = s.log ∧ t.calls = s.calls ∧
      t.results = s.results ∧ t.params = s.params

/-! ### Rules of the whole machine -/

/-- R70: the block never puts a byte outside `T_SEND` and never takes one outside `T_AWAIT`: the answers only come in there, by
events of the transport. Outside `T_AWAIT` the input buffer only grows, but for the `SESSION_OPEN` that empties it (R71). That
no byte is put after a reset, although a `TxPut` was in progress when it came, is the model's choice (log 31). -/
def Obligations.HalfDuplex : Prop :=
  ∀ s t : State, step s = .next t →
    (s.txnState ≠ .send → t.txStream = s.txStream ∧ s.txAnswers <+: t.txAnswers) ∧
    (s.txnState ≠ .await →
      s.rxAnswers <+: t.rxAnswers ∧
      (s.inputBuffer <+: t.inputBuffer ∨
       (t.inputBuffer = [] ∧ ∃ d b rest, s.schedule = .sessionOpen d b :: rest)))

/-- R7, R61, R62, R68: a step moves at most one byte. The TX stream is only ever appended to, by at most one byte a step, and
each byte put used up one `Ok`, one given before or the one the transport gives in this step (R320 (b)). A step takes no answer
given before, and then at most one comes in, behind those of its kind; or it takes one byte from the front of the input buffer, or, that being empty, the next answer to `RxTake`, or the
next answer to `TxPut`; or it completes a `SESSION_OPEN`. That an answer to no call in progress is kept, by a step of its own, is
the model's choice (log 2). -/
def Obligations.BytesMoveOneAStep : Prop :=
  ∀ s t : State, step s = .next t →
    (t.txStream = s.txStream ∨
     (∃ b, t.txStream = s.txStream ++ [b] ∧
      (s.txAnswers = .ok :: t.txAnswers ∨
       (t.txAnswers = s.txAnswers ∧ ∃ rest, s.schedule = .answer (.txPut .ok) :: rest)))) ∧
    ((s.inputBuffer <+: t.inputBuffer ∧ s.rxAnswers <+: t.rxAnswers ∧ s.txAnswers <+: t.txAnswers ∧
      s.lineAnswers <+: t.lineAnswers ∧
      t.rxAnswers.length + t.txAnswers.length + t.lineAnswers.length ≤
        s.rxAnswers.length + s.txAnswers.length + s.lineAnswers.length + 1) ∨
     ((∃ b, s.inputBuffer = b :: t.inputBuffer) ∧ t.rxAnswers = s.rxAnswers ∧ t.txAnswers = s.txAnswers ∧
      t.lineAnswers = s.lineAnswers) ∨
     (s.inputBuffer = [] ∧ t.inputBuffer = [] ∧ (∃ a, s.rxAnswers = a :: t.rxAnswers) ∧ t.txAnswers = s.txAnswers ∧
      t.lineAnswers = s.lineAnswers) ∨
     (t.inputBuffer = s.inputBuffer ∧ t.rxAnswers = s.rxAnswers ∧ (∃ a, s.txAnswers = a :: t.txAnswers) ∧
      t.lineAnswers = s.lineAnswers) ∨
     ((∃ d b rest, s.schedule = .sessionOpen d b :: rest) ∧ t.rxAnswers = s.rxAnswers ∧ t.txAnswers = s.txAnswers ∧
      (t.lineAnswers = s.lineAnswers.drop 1 ∨ t.lineAnswers = s.lineAnswers.drop 3)))

/-- R30: once set, `fatal` is cleared only by reset, be it one that finds a `SESSION_OPEN` waiting (the model's choice, log 8),
and by a `SESSION_OPEN` that succeeds. -/
def Obligations.FatalIsSticky : Prop :=
  ∀ s t : State, step s = .next t → s.fatal = true → t.fatal = false →
    (∃ rest, s.schedule = .reset :: rest) ∨
    (∃ d b rest, s.schedule = .sessionOpen d b :: rest ∧ .reset ∈ rest) ∨
    (∃ d b rest, s.schedule = .sessionOpen d b :: rest ∧ t.sessState = .cleared)

/-- R61, R62, R372: while a transport call is unanswered and nothing reaches the block, it changes no register and no stream,
and stands there for ever. R320 (b): an answer that comes while a call of its kind is in progress is the answer to that call, at
once, whatever bytes are in the input buffer: `Ok` puts the byte offered, `Timeout` fails the attempt, `Fault` ends the
transaction, and nothing is consumed. With no call in progress an answer is kept for a later one, the model's choice (log 2). A
`SESSION_CLOSE` ends the transaction only once the call in progress is answered: a `TxPut` then ends fatally (R200, R208), an
`RxTake` with some terminal outcome. That a call is in progress is the model's own bit `waiting` (log 4), and that an answer is an
event of the schedule its choice (logs 1 and 2). Reset, the other way out, is `ResetEventFromAnyState`. -/
def Obligations.UnansweredCallWaits : Prop :=
  (∀ s : State, s.Inv → s.schedule = [] → (s.sessState ≠ .closed ∨ s.waiting = true) →
    ((s.txnState = .send ∧ s.txAnswers = []) ∨ (s.txnState = .await ∧ s.rxStream = [])) →
    ∀ k, run (k + 1) s = .next { s with waiting := true }) ∧
  (∀ (s : State) (rest : List HostEvent), s.Inv → s.waiting = true →
    (s.txnState = .send → s.schedule = .answer (.txPut .ok) :: rest →
      ∃ b t, s.encByte = some b ∧ step s = .next t ∧ t.txStream = s.txStream ++ [b] ∧ t.txAnswers = s.txAnswers ∧
        t.waiting = false ∧ t.schedule = rest) ∧
    (s.txnState = .await → s.schedule = .answer .rxTimeout :: rest →
      ∃ t, step s = .next t ∧ s.failedInto t .readTimeout ∧ t.inputBuffer = s.inputBuffer ∧
        t.rxAnswers = s.rxAnswers ∧ t.schedule = rest) ∧
    ((s.txnState = .send ∧ s.schedule = .answer (.txPut .fault) :: rest ∨
      s.txnState = .await ∧ s.schedule = .answer .rxFault :: rest) →
      ∃ t, step s = .next t ∧ t.txnState = .idle ∧ t.resTag = .fatal ∧ t.fatal = true ∧ t.lastErr = .transport ∧
        t.txStream = s.txStream ∧ t.txAnswers = s.txAnswers ∧ t.inputBuffer = s.inputBuffer ∧
        t.rxAnswers = s.rxAnswers ∧ t.schedule = rest)) ∧
  (∀ (s : State) (rest : List HostEvent), s.cmdPhase ≠ .replyDue → s.waiting = false →
    (∀ a, s.schedule = .answer (.txPut a) :: rest →
      step s = .next { s with schedule := rest, txAnswers := s.txAnswers ++ [a] }) ∧
    (s.schedule = .answer .rxTimeout :: rest →
      step s = .next { s with schedule := rest, rxAnswers := s.rxAnswers ++ [.timeout] }) ∧
    (s.schedule = .answer .rxFault :: rest →
      step s = .next { s with schedule := rest, rxAnswers := s.rxAnswers ++ [.fault] })) ∧
  (∀ s : State, s.Inv → s.waiting = true →
    (∀ a, s.txnState = .send → s.schedule = [.sessionClose, .answer (.txPut a)] →
      ∃ t, run 3 s = .next t ∧ t.txnState = .idle ∧ t.resTag = .fatal ∧ t.fatal = true) ∧
    (∀ a, s.txnState = .await → (a = .rxTimeout ∨ a = .rxFault) → s.schedule = [.sessionClose, .answer a] →
      ∃ t, run 3 s = .next t ∧ t.txnState = .idle ∧ t.resTag ≠ .none) ∧
    (∀ b, s.txnState = .await → s.rxStream = [] → s.schedule = [.sessionClose, .words .wire [b]] →
      ∃ t, run 4 s = .next t ∧ t.txnState = .idle ∧ t.resTag ≠ .none))

/-- R201: the reference's empty result always means exhausted: a success never carries the empty payload. -/
def Obligations.EmptyLegacyResultMeansExhausted : Prop :=
  ∀ s : State, s.Inv → (s.legacy = .payload [] ↔ s.resTag = .exhausted)

/-! ### Pure functions -/

/-- R287: the wraparound difference of two counters, and that it is the 32-bit subtraction. -/
def Obligations.CounterDelta : Prop :=
  (∀ c1 c2 : Word,
    (c1.toNat ≤ c2.toNat → (delta c1 c2).toNat = c2.toNat - c1.toNat) ∧
    (c2.toNat < c1.toNat → (delta c1 c2).toNat = c2.toNat + 2 ^ 32 - c1.toNat) ∧
    delta c1 c2 = c2 - c1) ∧
  (∀ c : Word, delta c c = 0) ∧ delta 0xFFFFFFFF 0 = 1 ∧ delta 1 0 = 0xFFFFFFFF ∧ delta 0xFFFFFFF0 5 = 21

/-- R288: the rate is the exact quotient for positive seconds and is refused otherwise. -/
def Obligations.CounterRate : Prop :=
  (∀ (c1 c2 : Word) (x : Rat), 0 < x → rate c1 c2 x = some (((delta c1 c2).toNat : Rat) / x)) ∧
  (∀ (c1 c2 : Word) (x : Rat), x ≤ 0 → rate c1 c2 x = none) ∧
  rate 0xFFFFFFF0 5 3 = some 7

/-- R231: an axis below 0 gives 0, one above 255 gives 255, any other its own byte. -/
def Obligations.AxisClamp : Prop :=
  (∀ v : Int, v < 0 → clamp v = 0) ∧ (∀ v : Int, 255 < v → clamp v = 255) ∧
  (∀ v : Int, 0 ≤ v → v ≤ 255 → ((clamp v).toNat : Int) = v) ∧
  clamp 300 = 255 ∧ clamp (-10) = 0 ∧ clamp 256 = 255 ∧ clamp (-1) = 0

/-- R9, R65, R232, R285: the big-endian packers and extractors: their values, and that they are inverse. -/
def Obligations.BigEndianFields : Prop :=
  (∀ v : Half, ∃ hi lo : Byte, be16 v = [hi, lo] ∧ v.toNat = hi.toNat * 2 ^ 8 + lo.toNat) ∧
  (∀ hi lo : Byte, be16 (ube16 hi lo) = [hi, lo]) ∧
  (∀ b0 b1 b2 b3 : Byte,
    (ube32 b0 b1 b2 b3).toNat = b0.toNat * 2 ^ 24 + b1.toNat * 2 ^ 16 + b2.toNat * 2 ^ 8 + b3.toNat ∧
    be32 (ube32 b0 b1 b2 b3) = [b0, b1, b2, b3])

/-- R259: the exact rows of the heading transform, the row of extent 0 for every heading, the row of extent 2, a tie, where both
integers are admitted, and that a heading is reduced by the period of the circle; headings and extents are real numbers. -/
def Obligations.HeadingRows : Prop :=
  (∀ x y : Int, HeadingAdmits 0 1 x y ↔ x = 128 ∧ y = 1) ∧
  (∀ x y : Int, HeadingAdmits 90 1 x y ↔ x = 255 ∧ y = 128) ∧
  (∀ x y : Int, HeadingAdmits 180 1 x y ↔ x = 128 ∧ y = 255) ∧
  (∀ x y : Int, HeadingAdmits 270 1 x y ↔ x = 1 ∧ y = 128) ∧
  (∀ (h : ℝ) (x y : Int), HeadingAdmits h 0 x y ↔ x = 128 ∧ y = 128) ∧
  (∀ x y : Int, HeadingAdmits 0 2 x y ↔ x = 128 ∧ y = -126) ∧
  (∀ x y : Int, HeadingAdmits 30 1 x y ↔ (x = 191 ∨ x = 192) ∧ y = 18) ∧
  (∀ (h e : ℝ) (x y : Int), HeadingAdmits (h + 360) e x y ↔ HeadingAdmits h e x y)

/-- R259: every real heading and every real extent has a result, in the stated range or out of it, and every pair of axes the
constraint admits is the result of some configuration function. -/
def Obligations.HeadingAlwaysHasAResult : Prop :=
  ∀ heading extent : ℝ,
    (∃ x y, HeadingAdmits heading extent x y) ∧
    (∀ x y, HeadingAdmits heading extent x y → ∃ H : HeadingFunction, H.axes heading extent = (x, y))

/-- R260: whatever the configuration function `HEADING`, a heading pseudo-instruction is the stick command with the axes it
gives, for each of the four; its payload is `BUILD_STK`'s; the worked example. -/
def Obligations.HeadingPseudoInstructions : Prop :=
  ∀ (H : HeadingFunction) (P : Params),
    (∀ (h e : ℝ) (msec : Option Half),
      encode P (headingInstr H .moveLeft h e msec) = buildStk 0x6C (H.axes h e).1 (H.axes h e).2 msec ∧
      encode P (headingInstr H .moveRight h e msec) = buildStk 0x72 (H.axes h e).1 (H.axes h e).2 msec ∧
      encode P (headingInstr H .setLeft h e msec) = buildStk 0x4C (H.axes h e).1 (H.axes h e).2 msec ∧
      encode P (headingInstr H .setRight h e msec) = buildStk 0x52 (H.axes h e).1 (H.axes h e).2 msec) ∧
    encode P (headingInstr H .moveLeft 90 1 none) = [0x6C, 0xFF, 0x80] ∧
    ∀ (s : State) (h e : ℝ) (msec : Half) (rest : List HostEvent), s.cmdPhase ≠ .replyDue →
      (shapeOf s.params 0x6C = some .stk →
        (s.schedule = .call (headingInstr H .moveLeft h e none) :: rest →
          step s = exec (.moveLeftJoy (H.axes h e).1 (H.axes h e).2) { s with schedule := rest }) ∧
        (s.schedule = .call (headingInstr H .moveLeft h e (some msec)) :: rest →
          step s = exec (.moveLeftJoyD (H.axes h e).1 (H.axes h e).2 msec) { s with schedule := rest })) ∧
      (shapeOf s.params 0x72 = some .stk →
        (s.schedule = .call (headingInstr H .moveRight h e none) :: rest →
          step s = exec (.moveRightJoy (H.axes h e).1 (H.axes h e).2) { s with schedule := rest }) ∧
        (s.schedule = .call (headingInstr H .moveRight h e (some msec)) :: rest →
          step s = exec (.moveRightJoyD (H.axes h e).1 (H.axes h e).2 msec) { s with schedule := rest })) ∧
      (shapeOf s.params 0x4C = some .stk →
        (s.schedule = .call (headingInstr H .setLeft h e none) :: rest →
          step s = exec (.setLeftJoy (H.axes h e).1 (H.axes h e).2) { s with schedule := rest }) ∧
        (s.schedule = .call (headingInstr H .setLeft h e (some msec)) :: rest →
          step s = exec (.setLeftJoyD (H.axes h e).1 (H.axes h e).2 msec) { s with schedule := rest })) ∧
      (shapeOf s.params 0x52 = some .stk →
        (s.schedule = .call (headingInstr H .setRight h e none) :: rest →
          step s = exec (.setRightJoy (H.axes h e).1 (H.axes h e).2) { s with schedule := rest }) ∧
        (s.schedule = .call (headingInstr H .setRight h e (some msec)) :: rest →
          step s = exec (.setRightJoyD (H.axes h e).1 (H.axes h e).2 msec) { s with schedule := rest }))
end

