-- ==== Sys2Proof/Laws/State.lean ====
section
/-! SUPPORT. One lemma per field per named update of State, each true by rfl, so that no later proof unfolds an update. -/

namespace Sys2Proof.Machine

namespace State

/-! ### `give` -/

@[simp] theorem give_crcAcc (s : State) (r : HostResult) : (s.give r).crcAcc = s.crcAcc := rfl
@[simp] theorem give_reqBuf (s : State) (r : HostResult) : (s.give r).reqBuf = s.reqBuf := rfl
@[simp] theorem give_reqLen (s : State) (r : HostResult) : (s.give r).reqLen = s.reqLen := rfl
@[simp] theorem give_encState (s : State) (r : HostResult) : (s.give r).encState = s.encState := rfl
@[simp] theorem give_encIdx (s : State) (r : HostResult) : (s.give r).encIdx = s.encIdx := rfl
@[simp] theorem give_decState (s : State) (r : HostResult) : (s.give r).decState = s.decState := rfl
@[simp] theorem give_decLen (s : State) (r : HostResult) : (s.give r).decLen = s.decLen := rfl
@[simp] theorem give_decIdx (s : State) (r : HostResult) : (s.give r).decIdx = s.decIdx := rfl
@[simp] theorem give_rxBuf (s : State) (r : HostResult) : (s.give r).rxBuf = s.rxBuf := rfl
@[simp] theorem give_decChk (s : State) (r : HostResult) : (s.give r).decChk = s.decChk := rfl
@[simp] theorem give_txnState (s : State) (r : HostResult) : (s.give r).txnState = s.txnState := rfl
@[simp] theorem give_attempt (s : State) (r : HostResult) : (s.give r).attempt = s.attempt := rfl
@[simp] theorem give_resTag (s : State) (r : HostResult) : (s.give r).resTag = s.resTag := rfl
@[simp] theorem give_lastErr (s : State) (r : HostResult) : (s.give r).lastErr = s.lastErr := rfl
@[simp] theorem give_fatal (s : State) (r : HostResult) : (s.give r).fatal = s.fatal := rfl
@[simp] theorem give_sessState (s : State) (r : HostResult) : (s.give r).sessState = s.sessState := rfl
@[simp] theorem give_curOp (s : State) (r : HostResult) : (s.give r).curOp = s.curOp := rfl
@[simp] theorem give_rplKind (s : State) (r : HostResult) : (s.give r).rplKind = s.rplKind := rfl
@[simp] theorem give_rplAlive (s : State) (r : HostResult) : (s.give r).rplAlive = s.rplAlive := rfl
@[simp] theorem give_rplStatus (s : State) (r : HostResult) : (s.give r).rplStatus = s.rplStatus := rfl
@[simp] theorem give_rplFlags (s : State) (r : HostResult) : (s.give r).rplFlags = s.rplFlags := rfl
@[simp] theorem give_rplHead (s : State) (r : HostResult) : (s.give r).rplHead = s.rplHead := rfl
@[simp] theorem give_rplTail (s : State) (r : HostResult) : (s.give r).rplTail = s.rplTail := rfl
@[simp] theorem give_rplCount (s : State) (r : HostResult) : (s.give r).rplCount = s.rplCount := rfl
@[simp] theorem give_rplEchoCount (s : State) (r : HostResult) : (s.give r).rplEchoCount = s.rplEchoCount := rfl
@[simp] theorem give_rplIrqCnt (s : State) (r : HostResult) : (s.give r).rplIrqCnt = s.rplIrqCnt := rfl
@[simp] theorem give_rplCmdCnt (s : State) (r : HostResult) : (s.give r).rplCmdCnt = s.rplCmdCnt := rfl
@[simp] theorem give_cmdPhase (s : State) (r : HostResult) : (s.give r).cmdPhase = s.cmdPhase := rfl
@[simp] theorem give_waiting (s : State) (r : HostResult) : (s.give r).waiting = s.waiting := rfl
@[simp] theorem give_schedule (s : State) (r : HostResult) : (s.give r).schedule = s.schedule := rfl
@[simp] theorem give_inputBuffer (s : State) (r : HostResult) : (s.give r).inputBuffer = s.inputBuffer := rfl
@[simp] theorem give_rxAnswers (s : State) (r : HostResult) : (s.give r).rxAnswers = s.rxAnswers := rfl
@[simp] theorem give_txAnswers (s : State) (r : HostResult) : (s.give r).txAnswers = s.txAnswers := rfl
@[simp] theorem give_lineAnswers (s : State) (r : HostResult) : (s.give r).lineAnswers = s.lineAnswers := rfl
@[simp] theorem give_txStream (s : State) (r : HostResult) : (s.give r).txStream = s.txStream := rfl
@[simp] theorem give_log (s : State) (r : HostResult) : (s.give r).log = s.log := rfl
@[simp] theorem give_calls (s : State) (r : HostResult) : (s.give r).calls = s.calls := rfl
@[simp] theorem give_results (s : State) (r : HostResult) : (s.give r).results = s.results ++ [r] := rfl
@[simp] theorem give_params (s : State) (r : HostResult) : (s.give r).params = s.params := rfl

/-! ### `emitLog` -/

@[simp] theorem emitLog_crcAcc (s : State) (c : Cause) : (s.emitLog c).crcAcc = s.crcAcc := rfl
@[simp] theorem emitLog_reqBuf (s : State) (c : Cause) : (s.emitLog c).reqBuf = s.reqBuf := rfl
@[simp] theorem emitLog_reqLen (s : State) (c : Cause) : (s.emitLog c).reqLen = s.reqLen := rfl
@[simp] theorem emitLog_encState (s : State) (c : Cause) : (s.emitLog c).encState = s.encState := rfl
@[simp] theorem emitLog_encIdx (s : State) (c : Cause) : (s.emitLog c).encIdx = s.encIdx := rfl
@[simp] theorem emitLog_decState (s : State) (c : Cause) : (s.emitLog c).decState = s.decState := rfl
@[simp] theorem emitLog_decLen (s : State) (c : Cause) : (s.emitLog c).decLen = s.decLen := rfl
@[simp] theorem emitLog_decIdx (s : State) (c : Cause) : (s.emitLog c).decIdx = s.decIdx := rfl
@[simp] theorem emitLog_rxBuf (s : State) (c : Cause) : (s.emitLog c).rxBuf = s.rxBuf := rfl
@[simp] theorem emitLog_decChk (s : State) (c : Cause) : (s.emitLog c).decChk = s.decChk := rfl
@[simp] theorem emitLog_txnState (s : State) (c : Cause) : (s.emitLog c).txnState = s.txnState := rfl
@[simp] theorem emitLog_attempt (s : State) (c : Cause) : (s.emitLog c).attempt = s.attempt := rfl
@[simp] theorem emitLog_resTag (s : State) (c : Cause) : (s.emitLog c).resTag = s.resTag := rfl
@[simp] theorem emitLog_lastErr (s : State) (c : Cause) : (s.emitLog c).lastErr = s.lastErr := rfl
@[simp] theorem emitLog_fatal (s : State) (c : Cause) : (s.emitLog c).fatal = s.fatal := rfl
@[simp] theorem emitLog_sessState (s : State) (c : Cause) : (s.emitLog c).sessState = s.sessState := rfl
@[simp] theorem emitLog_curOp (s : State) (c : Cause) : (s.emitLog c).curOp = s.curOp := rfl
@[simp] theorem emitLog_rplKind (s : State) (c : Cause) : (s.emitLog c).rplKind = s.rplKind := rfl
@[simp] theorem emitLog_rplAlive (s : State) (c : Cause) : (s.emitLog c).rplAlive = s.rplAlive := rfl
@[simp] theorem emitLog_rplStatus (s : State) (c : Cause) : (s.emitLog c).rplStatus = s.rplStatus := rfl
@[simp] theorem emitLog_rplFlags (s : State) (c : Cause) : (s.emitLog c).rplFlags = s.rplFlags := rfl
@[simp] theorem emitLog_rplHead (s : State) (c : Cause) : (s.emitLog c).rplHead = s.rplHead := rfl
@[simp] theorem emitLog_rplTail (s : State) (c : Cause) : (s.emitLog c).rplTail = s.rplTail := rfl
@[simp] theorem emitLog_rplCount (s : State) (c : Cause) : (s.emitLog c).rplCount = s.rplCount := rfl
@[simp] theorem emitLog_rplEchoCount (s : State) (c : Cause) : (s.emitLog c).rplEchoCount = s.rplEchoCount := rfl
@[simp] theorem emitLog_rplIrqCnt (s : State) (c : Cause) : (s.emitLog c).rplIrqCnt = s.rplIrqCnt := rfl
@[simp] theorem emitLog_rplCmdCnt (s : State) (c : Cause) : (s.emitLog c).rplCmdCnt = s.rplCmdCnt := rfl
@[simp] theorem emitLog_cmdPhase (s : State) (c : Cause) : (s.emitLog c).cmdPhase = s.cmdPhase := rfl
@[simp] theorem emitLog_waiting (s : State) (c : Cause) : (s.emitLog c).waiting = s.waiting := rfl
@[simp] theorem emitLog_schedule (s : State) (c : Cause) : (s.emitLog c).schedule = s.schedule := rfl
@[simp] theorem emitLog_inputBuffer (s : State) (c : Cause) : (s.emitLog c).inputBuffer = s.inputBuffer := rfl
@[simp] theorem emitLog_rxAnswers (s : State) (c : Cause) : (s.emitLog c).rxAnswers = s.rxAnswers := rfl
@[simp] theorem emitLog_txAnswers (s : State) (c : Cause) : (s.emitLog c).txAnswers = s.txAnswers := rfl
@[simp] theorem emitLog_lineAnswers (s : State) (c : Cause) : (s.emitLog c).lineAnswers = s.lineAnswers := rfl
@[simp] theorem emitLog_txStream (s : State) (c : Cause) : (s.emitLog c).txStream = s.txStream := rfl
@[simp] theorem emitLog_log (s : State) (c : Cause) : (s.emitLog c).log = s.log ++ [(s.attempt, c)] := rfl
@[simp] theorem emitLog_calls (s : State) (c : Cause) : (s.emitLog c).calls = s.calls := rfl
@[simp] theorem emitLog_results (s : State) (c : Cause) : (s.emitLog c).results = s.results := rfl
@[simp] theorem emitLog_params (s : State) (c : Cause) : (s.emitLog c).params = s.params := rfl

/-! ### `ask` -/

@[simp] theorem ask_crcAcc (s : State) (cs : List TransportCall) : (s.ask cs).crcAcc = s.crcAcc := rfl
@[simp] theorem ask_reqBuf (s : State) (cs : List TransportCall) : (s.ask cs).reqBuf = s.reqBuf := rfl
@[simp] theorem ask_reqLen (s : State) (cs : List TransportCall) : (s.ask cs).reqLen = s.reqLen := rfl
@[simp] theorem ask_encState (s : State) (cs : List TransportCall) : (s.ask cs).encState = s.encState := rfl
@[simp] theorem ask_encIdx (s : State) (cs : List TransportCall) : (s.ask cs).encIdx = s.encIdx := rfl
@[simp] theorem ask_decState (s : State) (cs : List TransportCall) : (s.ask cs).decState = s.decState := rfl
@[simp] theorem ask_decLen (s : State) (cs : List TransportCall) : (s.ask cs).decLen = s.decLen := rfl
@[simp] theorem ask_decIdx (s : State) (cs : List TransportCall) : (s.ask cs).decIdx = s.decIdx := rfl
@[simp] theorem ask_rxBuf (s : State) (cs : List TransportCall) : (s.ask cs).rxBuf = s.rxBuf := rfl
@[simp] theorem ask_decChk (s : State) (cs : List TransportCall) : (s.ask cs).decChk = s.decChk := rfl
@[simp] theorem ask_txnState (s : State) (cs : List TransportCall) : (s.ask cs).txnState = s.txnState := rfl
@[simp] theorem ask_attempt (s : State) (cs : List TransportCall) : (s.ask cs).attempt = s.attempt := rfl
@[simp] theorem ask_resTag (s : State) (cs : List TransportCall) : (s.ask cs).resTag = s.resTag := rfl
@[simp] theorem ask_lastErr (s : State) (cs : List TransportCall) : (s.ask cs).lastErr = s.lastErr := rfl
@[simp] theorem ask_fatal (s : State) (cs : List TransportCall) : (s.ask cs).fatal = s.fatal := rfl
@[simp] theorem ask_sessState (s : State) (cs : List TransportCall) : (s.ask cs).sessState = s.sessState := rfl
@[simp] theorem ask_curOp (s : State) (cs : List TransportCall) : (s.ask cs).curOp = s.curOp := rfl
@[simp] theorem ask_rplKind (s : State) (cs : List TransportCall) : (s.ask cs).rplKind = s.rplKind := rfl
@[simp] theorem ask_rplAlive (s : State) (cs : List TransportCall) : (s.ask cs).rplAlive = s.rplAlive := rfl
@[simp] theorem ask_rplStatus (s : State) (cs : List TransportCall) : (s.ask cs).rplStatus = s.rplStatus := rfl
@[simp] theorem ask_rplFlags (s : State) (cs : List TransportCall) : (s.ask cs).rplFlags = s.rplFlags := rfl
@[simp] theorem ask_rplHead (s : State) (cs : List TransportCall) : (s.ask cs).rplHead = s.rplHead := rfl
@[simp] theorem ask_rplTail (s : State) (cs : List TransportCall) : (s.ask cs).rplTail = s.rplTail := rfl
@[simp] theorem ask_rplCount (s : State) (cs : List TransportCall) : (s.ask cs).rplCount = s.rplCount := rfl
@[simp] theorem ask_rplEchoCount (s : State) (cs : List TransportCall) : (s.ask cs).rplEchoCount = s.rplEchoCount := rfl
@[simp] theorem ask_rplIrqCnt (s : State) (cs : List TransportCall) : (s.ask cs).rplIrqCnt = s.rplIrqCnt := rfl
@[simp] theorem ask_rplCmdCnt (s : State) (cs : List TransportCall) : (s.ask cs).rplCmdCnt = s.rplCmdCnt := rfl
@[simp] theorem ask_cmdPhase (s : State) (cs : List TransportCall) : (s.ask cs).cmdPhase = s.cmdPhase := rfl
@[simp] theorem ask_waiting (s : State) (cs : List TransportCall) : (s.ask cs).waiting = s.waiting := rfl
@[simp] theorem ask_schedule (s : State) (cs : List TransportCall) : (s.ask cs).schedule = s.schedule := rfl
@[simp] theorem ask_inputBuffer (s : State) (cs : List TransportCall) : (s.ask cs).inputBuffer = s.inputBuffer := rfl
@[simp] theorem ask_rxAnswers (s : State) (cs : List TransportCall) : (s.ask cs).rxAnswers = s.rxAnswers := rfl
@[simp] theorem ask_txAnswers (s : State) (cs : List TransportCall) : (s.ask cs).txAnswers = s.txAnswers := rfl
@[simp] theorem ask_lineAnswers (s : State) (cs : List TransportCall) : (s.ask cs).lineAnswers = s.lineAnswers := rfl
@[simp] theorem ask_txStream (s : State) (cs : List TransportCall) : (s.ask cs).txStream = s.txStream := rfl
@[simp] theorem ask_log (s : State) (cs : List TransportCall) : (s.ask cs).log = s.log := rfl
@[simp] theorem ask_calls (s : State) (cs : List TransportCall) : (s.ask cs).calls = s.calls ++ cs := rfl
@[simp] theorem ask_results (s : State) (cs : List TransportCall) : (s.ask cs).results = s.results := rfl
@[simp] theorem ask_params (s : State) (cs : List TransportCall) : (s.ask cs).params = s.params := rfl

/-! ### `arrive` -/

@[simp] theorem arrive_crcAcc (s : State) (bs : List Byte) : (s.arrive bs).crcAcc = s.crcAcc := rfl
@[simp] theorem arrive_reqBuf (s : State) (bs : List Byte) : (s.arrive bs).reqBuf = s.reqBuf := rfl
@[simp] theorem arrive_reqLen (s : State) (bs : List Byte) : (s.arrive bs).reqLen = s.reqLen := rfl
@[simp] theorem arrive_encState (s : State) (bs : List Byte) : (s.arrive bs).encState = s.encState := rfl
@[simp] theorem arrive_encIdx (s : State) (bs : List Byte) : (s.arrive bs).encIdx = s.encIdx := rfl
@[simp] theorem arrive_decState (s : State) (bs : List Byte) : (s.arrive bs).decState = s.decState := rfl
@[simp] theorem arrive_decLen (s : State) (bs : List Byte) : (s.arrive bs).decLen = s.decLen := rfl
@[simp] theorem arrive_decIdx (s : State) (bs : List Byte) : (s.arrive bs).decIdx = s.decIdx := rfl
@[simp] theorem arrive_rxBuf (s : State) (bs : List Byte) : (s.arrive bs).rxBuf = s.rxBuf := rfl
@[simp] theorem arrive_decChk (s : State) (bs : List Byte) : (s.arrive bs).decChk = s.decChk := rfl
@[simp] theorem arrive_txnState (s : State) (bs : List Byte) : (s.arrive bs).txnState = s.txnState := rfl
@[simp] theorem arrive_attempt (s : State) (bs : List Byte) : (s.arrive bs).attempt = s.attempt := rfl
@[simp] theorem arrive_resTag (s : State) (bs : List Byte) : (s.arrive bs).resTag = s.resTag := rfl
@[simp] theorem arrive_lastErr (s : State) (bs : List Byte) : (s.arrive bs).lastErr = s.lastErr := rfl
@[simp] theorem arrive_fatal (s : State) (bs : List Byte) : (s.arrive bs).fatal = s.fatal := rfl
@[simp] theorem arrive_sessState (s : State) (bs : List Byte) : (s.arrive bs).sessState = s.sessState := rfl
@[simp] theorem arrive_curOp (s : State) (bs : List Byte) : (s.arrive bs).curOp = s.curOp := rfl
@[simp] theorem arrive_rplKind (s : State) (bs : List Byte) : (s.arrive bs).rplKind = s.rplKind := rfl
@[simp] theorem arrive_rplAlive (s : State) (bs : List Byte) : (s.arrive bs).rplAlive = s.rplAlive := rfl
@[simp] theorem arrive_rplStatus (s : State) (bs : List Byte) : (s.arrive bs).rplStatus = s.rplStatus := rfl
@[simp] theorem arrive_rplFlags (s : State) (bs : List Byte) : (s.arrive bs).rplFlags = s.rplFlags := rfl
@[simp] theorem arrive_rplHead (s : State) (bs : List Byte) : (s.arrive bs).rplHead = s.rplHead := rfl
@[simp] theorem arrive_rplTail (s : State) (bs : List Byte) : (s.arrive bs).rplTail = s.rplTail := rfl
@[simp] theorem arrive_rplCount (s : State) (bs : List Byte) : (s.arrive bs).rplCount = s.rplCount := rfl
@[simp] theorem arrive_rplEchoCount (s : State) (bs : List Byte) : (s.arrive bs).rplEchoCount = s.rplEchoCount := rfl
@[simp] theorem arrive_rplIrqCnt (s : State) (bs : List Byte) : (s.arrive bs).rplIrqCnt = s.rplIrqCnt := rfl
@[simp] theorem arrive_rplCmdCnt (s : State) (bs : List Byte) : (s.arrive bs).rplCmdCnt = s.rplCmdCnt := rfl
@[simp] theorem arrive_cmdPhase (s : State) (bs : List Byte) : (s.arrive bs).cmdPhase = s.cmdPhase := rfl
@[simp] theorem arrive_waiting (s : State) (bs : List Byte) : (s.arrive bs).waiting = s.waiting := rfl
@[simp] theorem arrive_schedule (s : State) (bs : List Byte) : (s.arrive bs).schedule = s.schedule := rfl
@[simp] theorem arrive_inputBuffer (s : State) (bs : List Byte) : (s.arrive bs).inputBuffer = s.inputBuffer ++ bs := rfl
@[simp] theorem arrive_rxAnswers (s : State) (bs : List Byte) : (s.arrive bs).rxAnswers = s.rxAnswers := rfl
@[simp] theorem arrive_txAnswers (s : State) (bs : List Byte) : (s.arrive bs).txAnswers = s.txAnswers := rfl
@[simp] theorem arrive_lineAnswers (s : State) (bs : List Byte) : (s.arrive bs).lineAnswers = s.lineAnswers := rfl
@[simp] theorem arrive_txStream (s : State) (bs : List Byte) : (s.arrive bs).txStream = s.txStream := rfl
@[simp] theorem arrive_log (s : State) (bs : List Byte) : (s.arrive bs).log = s.log := rfl
@[simp] theorem arrive_calls (s : State) (bs : List Byte) : (s.arrive bs).calls = s.calls := rfl
@[simp] theorem arrive_results (s : State) (bs : List Byte) : (s.arrive bs).results = s.results := rfl
@[simp] theorem arrive_params (s : State) (bs : List Byte) : (s.arrive bs).params = s.params := rfl

/-! ### `answered` -/

@[simp] theorem answered_crcAcc (s : State) (a : TransportAnswer) : (s.answered a).crcAcc = s.crcAcc := rfl
@[simp] theorem answered_reqBuf (s : State) (a : TransportAnswer) : (s.answered a).reqBuf = s.reqBuf := rfl
@[simp] theorem answered_reqLen (s : State) (a : TransportAnswer) : (s.answered a).reqLen = s.reqLen := rfl
@[simp] theorem answered_encState (s : State) (a : TransportAnswer) : (s.answered a).encState = s.encState := rfl
@[simp] theorem answered_encIdx (s : State) (a : TransportAnswer) : (s.answered a).encIdx = s.encIdx := rfl
@[simp] theorem answered_decState (s : State) (a : TransportAnswer) : (s.answered a).decState = s.decState := rfl
@[simp] theorem answered_decLen (s : State) (a : TransportAnswer) : (s.answered a).decLen = s.decLen := rfl
@[simp] theorem answered_decIdx (s : State) (a : TransportAnswer) : (s.answered a).decIdx = s.decIdx := rfl
@[simp] theorem answered_rxBuf (s : State) (a : TransportAnswer) : (s.answered a).rxBuf = s.rxBuf := rfl
@[simp] theorem answered_decChk (s : State) (a : TransportAnswer) : (s.answered a).decChk = s.decChk := rfl
@[simp] theorem answered_txnState (s : State) (a : TransportAnswer) : (s.answered a).txnState = s.txnState := rfl
@[simp] theorem answered_attempt (s : State) (a : TransportAnswer) : (s.answered a).attempt = s.attempt := rfl
@[simp] theorem answered_resTag (s : State) (a : TransportAnswer) : (s.answered a).resTag = s.resTag := rfl
@[simp] theorem answered_lastErr (s : State) (a : TransportAnswer) : (s.answered a).lastErr = s.lastErr := rfl
@[simp] theorem answered_fatal (s : State) (a : TransportAnswer) : (s.answered a).fatal = s.fatal := rfl
@[simp] theorem answered_sessState (s : State) (a : TransportAnswer) : (s.answered a).sessState = s.sessState := rfl
@[simp] theorem answered_curOp (s : State) (a : TransportAnswer) : (s.answered a).curOp = s.curOp := rfl
@[simp] theorem answered_rplKind (s : State) (a : TransportAnswer) : (s.answered a).rplKind = s.rplKind := rfl
@[simp] theorem answered_rplAlive (s : State) (a : TransportAnswer) : (s.answered a).rplAlive = s.rplAlive := rfl
@[simp] theorem answered_rplStatus (s : State) (a : TransportAnswer) : (s.answered a).rplStatus = s.rplStatus := rfl
@[simp] theorem answered_rplFlags (s : State) (a : TransportAnswer) : (s.answered a).rplFlags = s.rplFlags := rfl
@[simp] theorem answered_rplHead (s : State) (a : TransportAnswer) : (s.answered a).rplHead = s.rplHead := rfl
@[simp] theorem answered_rplTail (s : State) (a : TransportAnswer) : (s.answered a).rplTail = s.rplTail := rfl
@[simp] theorem answered_rplCount (s : State) (a : TransportAnswer) : (s.answered a).rplCount = s.rplCount := rfl
@[simp] theorem answered_rplEchoCount (s : State) (a : TransportAnswer) : (s.answered a).rplEchoCount = s.rplEchoCount := rfl
@[simp] theorem answered_rplIrqCnt (s : State) (a : TransportAnswer) : (s.answered a).rplIrqCnt = s.rplIrqCnt := rfl
@[simp] theorem answered_rplCmdCnt (s : State) (a : TransportAnswer) : (s.answered a).rplCmdCnt = s.rplCmdCnt := rfl
@[simp] theorem answered_cmdPhase (s : State) (a : TransportAnswer) : (s.answered a).cmdPhase = s.cmdPhase := rfl
@[simp] theorem answered_waiting (s : State) (a : TransportAnswer) : (s.answered a).waiting = s.waiting := rfl
@[simp] theorem answered_schedule (s : State) (a : TransportAnswer) : (s.answered a).schedule = s.schedule := rfl
@[simp] theorem answered_inputBuffer (s : State) (a : TransportAnswer) : (s.answered a).inputBuffer = s.inputBuffer := rfl
@[simp] theorem answered_rxAnswers (s : State) (a : TransportAnswer) : (s.answered a).rxAnswers = s.rxAnswers ++ a.toRxTake := rfl
@[simp] theorem answered_txAnswers (s : State) (a : TransportAnswer) : (s.answered a).txAnswers = s.txAnswers ++ a.toTxPut := rfl
@[simp] theorem answered_lineAnswers (s : State) (a : TransportAnswer) : (s.answered a).lineAnswers = s.lineAnswers ++ a.toLine := rfl
@[simp] theorem answered_txStream (s : State) (a : TransportAnswer) : (s.answered a).txStream = s.txStream := rfl
@[simp] theorem answered_log (s : State) (a : TransportAnswer) : (s.answered a).log = s.log := rfl
@[simp] theorem answered_calls (s : State) (a : TransportAnswer) : (s.answered a).calls = s.calls := rfl
@[simp] theorem answered_results (s : State) (a : TransportAnswer) : (s.answered a).results = s.results := rfl
@[simp] theorem answered_params (s : State) (a : TransportAnswer) : (s.answered a).params = s.params := rfl

/-! ### `latch` -/

@[simp] theorem latch_crcAcc (s : State) (p : List Byte) : (s.latch p).crcAcc = s.crcAcc := rfl
@[simp] theorem latch_reqBuf (s : State) (p : List Byte) : (s.latch p).reqBuf = writeBytes s.reqBuf 0 p := rfl
@[simp] theorem latch_reqLen (s : State) (p : List Byte) : (s.latch p).reqLen = BitVec.ofNat 4 p.length := rfl
@[simp] theorem latch_encState (s : State) (p : List Byte) : (s.latch p).encState = s.encState := rfl
@[simp] theorem latch_encIdx (s : State) (p : List Byte) : (s.latch p).encIdx = s.encIdx := rfl
@[simp] theorem latch_decState (s : State) (p : List Byte) : (s.latch p).decState = s.decState := rfl
@[simp] theorem latch_decLen (s : State) (p : List Byte) : (s.latch p).decLen = s.decLen := rfl
@[simp] theorem latch_decIdx (s : State) (p : List Byte) : (s.latch p).decIdx = s.decIdx := rfl
@[simp] theorem latch_rxBuf (s : State) (p : List Byte) : (s.latch p).rxBuf = s.rxBuf := rfl
@[simp] theorem latch_decChk (s : State) (p : List Byte) : (s.latch p).decChk = s.decChk := rfl
@[simp] theorem latch_txnState (s : State) (p : List Byte) : (s.latch p).txnState = s.txnState := rfl
@[simp] theorem latch_attempt (s : State) (p : List Byte) : (s.latch p).attempt = 0 := rfl
@[simp] theorem latch_resTag (s : State) (p : List Byte) : (s.latch p).resTag = .none := rfl
@[simp] theorem latch_lastErr (s : State) (p : List Byte) : (s.latch p).lastErr = .none := rfl
@[simp] theorem latch_fatal (s : State) (p : List Byte) : (s.latch p).fatal = s.fatal := rfl
@[simp] theorem latch_sessState (s : State) (p : List Byte) : (s.latch p).sessState = .active := rfl
@[simp] theorem latch_curOp (s : State) (p : List Byte) : (s.latch p).curOp = s.curOp := rfl
@[simp] theorem latch_rplKind (s : State) (p : List Byte) : (s.latch p).rplKind = s.rplKind := rfl
@[simp] theorem latch_rplAlive (s : State) (p : List Byte) : (s.latch p).rplAlive = s.rplAlive := rfl
@[simp] theorem latch_rplStatus (s : State) (p : List Byte) : (s.latch p).rplStatus = s.rplStatus := rfl
@[simp] theorem latch_rplFlags (s : State) (p : List Byte) : (s.latch p).rplFlags = s.rplFlags := rfl
@[simp] theorem latch_rplHead (s : State) (p : List Byte) : (s.latch p).rplHead = s.rplHead := rfl
@[simp] theorem latch_rplTail (s : State) (p : List Byte) : (s.latch p).rplTail = s.rplTail := rfl
@[simp] theorem latch_rplCount (s : State) (p : List Byte) : (s.latch p).rplCount = s.rplCount := rfl
@[simp] theorem latch_rplEchoCount (s : State) (p : List Byte) : (s.latch p).rplEchoCount = s.rplEchoCount := rfl
@[simp] theorem latch_rplIrqCnt (s : State) (p : List Byte) : (s.latch p).rplIrqCnt = s.rplIrqCnt := rfl
@[simp] theorem latch_rplCmdCnt (s : State) (p : List Byte) : (s.latch p).rplCmdCnt = s.rplCmdCnt := rfl
@[simp] theorem latch_cmdPhase (s : State) (p : List Byte) : (s.latch p).cmdPhase = s.cmdPhase := rfl
@[simp] theorem latch_waiting (s : State) (p : List Byte) : (s.latch p).waiting = s.waiting := rfl
@[simp] theorem latch_schedule (s : State) (p : List Byte) : (s.latch p).schedule = s.schedule := rfl
@[simp] theorem latch_inputBuffer (s : State) (p : List Byte) : (s.latch p).inputBuffer = s.inputBuffer := rfl
@[simp] theorem latch_rxAnswers (s : State) (p : List Byte) : (s.latch p).rxAnswers = s.rxAnswers := rfl
@[simp] theorem latch_txAnswers (s : State) (p : List Byte) : (s.latch p).txAnswers = s.txAnswers := rfl
@[simp] theorem latch_lineAnswers (s : State) (p : List Byte) : (s.latch p).lineAnswers = s.lineAnswers := rfl
@[simp] theorem latch_txStream (s : State) (p : List Byte) : (s.latch p).txStream = s.txStream := rfl
@[simp] theorem latch_log (s : State) (p : List Byte) : (s.latch p).log = s.log := rfl
@[simp] theorem latch_calls (s : State) (p : List Byte) : (s.latch p).calls = s.calls := rfl
@[simp] theorem latch_results (s : State) (p : List Byte) : (s.latch p).results = s.results := rfl
@[simp] theorem latch_params (s : State) (p : List Byte) : (s.latch p).params = s.params := rfl

/-! ### `startAttempt` -/

@[simp] theorem startAttempt_crcAcc (s : State) : s.startAttempt.crcAcc = s.crcAcc := rfl
@[simp] theorem startAttempt_reqBuf (s : State) : s.startAttempt.reqBuf = s.reqBuf := rfl
@[simp] theorem startAttempt_reqLen (s : State) : s.startAttempt.reqLen = s.reqLen := rfl
@[simp] theorem startAttempt_encState (s : State) : s.startAttempt.encState = .start := rfl
@[simp] theorem startAttempt_encIdx (s : State) : s.startAttempt.encIdx = s.encIdx := rfl
@[simp] theorem startAttempt_decState (s : State) : s.startAttempt.decState = s.decState := rfl
@[simp] theorem startAttempt_decLen (s : State) : s.startAttempt.decLen = s.decLen := rfl
@[simp] theorem startAttempt_decIdx (s : State) : s.startAttempt.decIdx = s.decIdx := rfl
@[simp] theorem startAttempt_rxBuf (s : State) : s.startAttempt.rxBuf = s.rxBuf := rfl
@[simp] theorem startAttempt_decChk (s : State) : s.startAttempt.decChk = s.decChk := rfl
@[simp] theorem startAttempt_txnState (s : State) : s.startAttempt.txnState = .send := rfl
@[simp] theorem startAttempt_attempt (s : State) : s.startAttempt.attempt = s.attempt + 1 := rfl
@[simp] theorem startAttempt_resTag (s : State) : s.startAttempt.resTag = s.resTag := rfl
@[simp] theorem startAttempt_lastErr (s : State) : s.startAttempt.lastErr = s.lastErr := rfl
@[simp] theorem startAttempt_fatal (s : State) : s.startAttempt.fatal = s.fatal := rfl
@[simp] theorem startAttempt_sessState (s : State) : s.startAttempt.sessState = s.sessState := rfl
@[simp] theorem startAttempt_curOp (s : State) : s.startAttempt.curOp = s.curOp := rfl
@[simp] theorem startAttempt_rplKind (s : State) : s.startAttempt.rplKind = s.rplKind := rfl
@[simp] theorem startAttempt_rplAlive (s : State) : s.startAttempt.rplAlive = s.rplAlive := rfl
@[simp] theorem startAttempt_rplStatus (s : State) : s.startAttempt.rplStatus = s.rplStatus := rfl
@[simp] theorem startAttempt_rplFlags (s : State) : s.startAttempt.rplFlags = s.rplFlags := rfl
@[simp] theorem startAttempt_rplHead (s : State) : s.startAttempt.rplHead = s.rplHead := rfl
@[simp] theorem startAttempt_rplTail (s : State) : s.startAttempt.rplTail = s.rplTail := rfl
@[simp] theorem startAttempt_rplCount (s : State) : s.startAttempt.rplCount = s.rplCount := rfl
@[simp] theorem startAttempt_rplEchoCount (s : State) : s.startAttempt.rplEchoCount = s.rplEchoCount := rfl
@[simp] theorem startAttempt_rplIrqCnt (s : State) : s.startAttempt.rplIrqCnt = s.rplIrqCnt := rfl
@[simp] theorem startAttempt_rplCmdCnt (s : State) : s.startAttempt.rplCmdCnt = s.rplCmdCnt := rfl
@[simp] theorem startAttempt_cmdPhase (s : State) : s.startAttempt.cmdPhase = s.cmdPhase := rfl
@[simp] theorem startAttempt_waiting (s : State) : s.startAttempt.waiting = false := rfl
@[simp] theorem startAttempt_schedule (s : State) : s.startAttempt.schedule = s.schedule := rfl
@[simp] theorem startAttempt_inputBuffer (s : State) : s.startAttempt.inputBuffer = s.inputBuffer := rfl
@[simp] theorem startAttempt_rxAnswers (s : State) : s.startAttempt.rxAnswers = s.rxAnswers := rfl
@[simp] theorem startAttempt_txAnswers (s : State) : s.startAttempt.txAnswers = s.txAnswers := rfl
@[simp] theorem startAttempt_lineAnswers (s : State) : s.startAttempt.lineAnswers = s.lineAnswers := rfl
@[simp] theorem startAttempt_txStream (s : State) : s.startAttempt.txStream = s.txStream := rfl
@[simp] theorem startAttempt_log (s : State) : s.startAttempt.log = s.log := rfl
@[simp] theorem startAttempt_calls (s : State) : s.startAttempt.calls = s.calls := rfl
@[simp] theorem startAttempt_results (s : State) : s.startAttempt.results = s.results := rfl
@[simp] theorem startAttempt_params (s : State) : s.startAttempt.params = s.params := rfl

/-! ### `beginFrame` -/

@[simp] theorem beginFrame_crcAcc (s : State) (n : Nibble) : (s.beginFrame n).crcAcc = crcInitial := rfl
@[simp] theorem beginFrame_reqBuf (s : State) (n : Nibble) : (s.beginFrame n).reqBuf = s.reqBuf := rfl
@[simp] theorem beginFrame_reqLen (s : State) (n : Nibble) : (s.beginFrame n).reqLen = s.reqLen := rfl
@[simp] theorem beginFrame_encState (s : State) (n : Nibble) : (s.beginFrame n).encState = s.encState := rfl
@[simp] theorem beginFrame_encIdx (s : State) (n : Nibble) : (s.beginFrame n).encIdx = s.encIdx := rfl
@[simp] theorem beginFrame_decState (s : State) (n : Nibble) : (s.beginFrame n).decState = if n = 0 then .chk else .payload := rfl
@[simp] theorem beginFrame_decLen (s : State) (n : Nibble) : (s.beginFrame n).decLen = n := rfl
@[simp] theorem beginFrame_decIdx (s : State) (n : Nibble) : (s.beginFrame n).decIdx = 0 := rfl
@[simp] theorem beginFrame_rxBuf (s : State) (n : Nibble) : (s.beginFrame n).rxBuf = s.rxBuf := rfl
@[simp] theorem beginFrame_decChk (s : State) (n : Nibble) : (s.beginFrame n).decChk = s.decChk := rfl
@[simp] theorem beginFrame_txnState (s : State) (n : Nibble) : (s.beginFrame n).txnState = s.txnState := rfl
@[simp] theorem beginFrame_attempt (s : State) (n : Nibble) : (s.beginFrame n).attempt = s.attempt := rfl
@[simp] theorem beginFrame_resTag (s : State) (n : Nibble) : (s.beginFrame n).resTag = s.resTag := rfl
@[simp] theorem beginFrame_lastErr (s : State) (n : Nibble) : (s.beginFrame n).lastErr = s.lastErr := rfl
@[simp] theorem beginFrame_fatal (s : State) (n : Nibble) : (s.beginFrame n).fatal = s.fatal := rfl
@[simp] theorem beginFrame_sessState (s : State) (n : Nibble) : (s.beginFrame n).sessState = s.sessState := rfl
@[simp] theorem beginFrame_curOp (s : State) (n : Nibble) : (s.beginFrame n).curOp = s.curOp := rfl
@[simp] theorem beginFrame_rplKind (s : State) (n : Nibble) : (s.beginFrame n).rplKind = s.rplKind := rfl
@[simp] theorem beginFrame_rplAlive (s : State) (n : Nibble) : (s.beginFrame n).rplAlive = s.rplAlive := rfl
@[simp] theorem beginFrame_rplStatus (s : State) (n : Nibble) : (s.beginFrame n).rplStatus = s.rplStatus := rfl
@[simp] theorem beginFrame_rplFlags (s : State) (n : Nibble) : (s.beginFrame n).rplFlags = s.rplFlags := rfl
@[simp] theorem beginFrame_rplHead (s : State) (n : Nibble) : (s.beginFrame n).rplHead = s.rplHead := rfl
@[simp] theorem beginFrame_rplTail (s : State) (n : Nibble) : (s.beginFrame n).rplTail = s.rplTail := rfl
@[simp] theorem beginFrame_rplCount (s : State) (n : Nibble) : (s.beginFrame n).rplCount = s.rplCount := rfl
@[simp] theorem beginFrame_rplEchoCount (s : State) (n : Nibble) : (s.beginFrame n).rplEchoCount = s.rplEchoCount := rfl
@[simp] theorem beginFrame_rplIrqCnt (s : State) (n : Nibble) : (s.beginFrame n).rplIrqCnt = s.rplIrqCnt := rfl
@[simp] theorem beginFrame_rplCmdCnt (s : State) (n : Nibble) : (s.beginFrame n).rplCmdCnt = s.rplCmdCnt := rfl
@[simp] theorem beginFrame_cmdPhase (s : State) (n : Nibble) : (s.beginFrame n).cmdPhase = s.cmdPhase := rfl
@[simp] theorem beginFrame_waiting (s : State) (n : Nibble) : (s.beginFrame n).waiting = s.waiting := rfl
@[simp] theorem beginFrame_schedule (s : State) (n : Nibble) : (s.beginFrame n).schedule = s.schedule := rfl
@[simp] theorem beginFrame_inputBuffer (s : State) (n : Nibble) : (s.beginFrame n).inputBuffer = s.inputBuffer := rfl
@[simp] theorem beginFrame_rxAnswers (s : State) (n : Nibble) : (s.beginFrame n).rxAnswers = s.rxAnswers := rfl
@[simp] theorem beginFrame_txAnswers (s : State) (n : Nibble) : (s.beginFrame n).txAnswers = s.txAnswers := rfl
@[simp] theorem beginFrame_lineAnswers (s : State) (n : Nibble) : (s.beginFrame n).lineAnswers = s.lineAnswers := rfl
@[simp] theorem beginFrame_txStream (s : State) (n : Nibble) : (s.beginFrame n).txStream = s.txStream := rfl
@[simp] theorem beginFrame_log (s : State) (n : Nibble) : (s.beginFrame n).log = s.log := rfl
@[simp] theorem beginFrame_calls (s : State) (n : Nibble) : (s.beginFrame n).calls = s.calls := rfl
@[simp] theorem beginFrame_results (s : State) (n : Nibble) : (s.beginFrame n).results = s.results := rfl
@[simp] theorem beginFrame_params (s : State) (n : Nibble) : (s.beginFrame n).params = s.params := rfl

/-! ### `storeByte` -/

@[simp] theorem storeByte_crcAcc (s : State) (b : Byte) : (s.storeByte b).crcAcc = crcUpdate s.crcAcc b := rfl
@[simp] theorem storeByte_reqBuf (s : State) (b : Byte) : (s.storeByte b).reqBuf = s.reqBuf := rfl
@[simp] theorem storeByte_reqLen (s : State) (b : Byte) : (s.storeByte b).reqLen = s.reqLen := rfl
@[simp] theorem storeByte_encState (s : State) (b : Byte) : (s.storeByte b).encState = s.encState := rfl
@[simp] theorem storeByte_encIdx (s : State) (b : Byte) : (s.storeByte b).encIdx = s.encIdx := rfl
@[simp] theorem storeByte_decState (s : State) (b : Byte) : (s.storeByte b).decState = if s.decIdx + 1 = s.decLen then .chk else .payload := rfl
@[simp] theorem storeByte_decLen (s : State) (b : Byte) : (s.storeByte b).decLen = s.decLen := rfl
@[simp] theorem storeByte_decIdx (s : State) (b : Byte) : (s.storeByte b).decIdx = s.decIdx + 1 := rfl
@[simp] theorem storeByte_rxBuf (s : State) (b : Byte) : (s.storeByte b).rxBuf = s.rxBuf.setIfInBounds s.decIdx.toNat b := rfl
@[simp] theorem storeByte_decChk (s : State) (b : Byte) : (s.storeByte b).decChk = s.decChk := rfl
@[simp] theorem storeByte_txnState (s : State) (b : Byte) : (s.storeByte b).txnState = s.txnState := rfl
@[simp] theorem storeByte_attempt (s : State) (b : Byte) : (s.storeByte b).attempt = s.attempt := rfl
@[simp] theorem storeByte_resTag (s : State) (b : Byte) : (s.storeByte b).resTag = s.resTag := rfl
@[simp] theorem storeByte_lastErr (s : State) (b : Byte) : (s.storeByte b).lastErr = s.lastErr := rfl
@[simp] theorem storeByte_fatal (s : State) (b : Byte) : (s.storeByte b).fatal = s.fatal := rfl
@[simp] theorem storeByte_sessState (s : State) (b : Byte) : (s.storeByte b).sessState = s.sessState := rfl
@[simp] theorem storeByte_curOp (s : State) (b : Byte) : (s.storeByte b).curOp = s.curOp := rfl
@[simp] theorem storeByte_rplKind (s : State) (b : Byte) : (s.storeByte b).rplKind = s.rplKind := rfl
@[simp] theorem storeByte_rplAlive (s : State) (b : Byte) : (s.storeByte b).rplAlive = s.rplAlive := rfl
@[simp] theorem storeByte_rplStatus (s : State) (b : Byte) : (s.storeByte b).rplStatus = s.rplStatus := rfl
@[simp] theorem storeByte_rplFlags (s : State) (b : Byte) : (s.storeByte b).rplFlags = s.rplFlags := rfl
@[simp] theorem storeByte_rplHead (s : State) (b : Byte) : (s.storeByte b).rplHead = s.rplHead := rfl
@[simp] theorem storeByte_rplTail (s : State) (b : Byte) : (s.storeByte b).rplTail = s.rplTail := rfl
@[simp] theorem storeByte_rplCount (s : State) (b : Byte) : (s.storeByte b).rplCount = s.rplCount := rfl
@[simp] theorem storeByte_rplEchoCount (s : State) (b : Byte) : (s.storeByte b).rplEchoCount = s.rplEchoCount := rfl
@[simp] theorem storeByte_rplIrqCnt (s : State) (b : Byte) : (s.storeByte b).rplIrqCnt = s.rplIrqCnt := rfl
@[simp] theorem storeByte_rplCmdCnt (s : State) (b : Byte) : (s.storeByte b).rplCmdCnt = s.rplCmdCnt := rfl
@[simp] theorem storeByte_cmdPhase (s : State) (b : Byte) : (s.storeByte b).cmdPhase = s.cmdPhase := rfl
@[simp] theorem storeByte_waiting (s : State) (b : Byte) : (s.storeByte b).waiting = s.waiting := rfl
@[simp] theorem storeByte_schedule (s : State) (b : Byte) : (s.storeByte b).schedule = s.schedule := rfl
@[simp] theorem storeByte_inputBuffer (s : State) (b : Byte) : (s.storeByte b).inputBuffer = s.inputBuffer := rfl
@[simp] theorem storeByte_rxAnswers (s : State) (b : Byte) : (s.storeByte b).rxAnswers = s.rxAnswers := rfl
@[simp] theorem storeByte_txAnswers (s : State) (b : Byte) : (s.storeByte b).txAnswers = s.txAnswers := rfl
@[simp] theorem storeByte_lineAnswers (s : State) (b : Byte) : (s.storeByte b).lineAnswers = s.lineAnswers := rfl
@[simp] theorem storeByte_txStream (s : State) (b : Byte) : (s.storeByte b).txStream = s.txStream := rfl
@[simp] theorem storeByte_log (s : State) (b : Byte) : (s.storeByte b).log = s.log := rfl
@[simp] theorem storeByte_calls (s : State) (b : Byte) : (s.storeByte b).calls = s.calls := rfl
@[simp] theorem storeByte_results (s : State) (b : Byte) : (s.storeByte b).results = s.results := rfl
@[simp] theorem storeByte_params (s : State) (b : Byte) : (s.storeByte b).params = s.params := rfl

/-! ### `takeFrame` -/

@[simp] theorem takeFrame_crcAcc (s : State) (p : List Byte) (check : Byte) : (s.takeFrame p check).crcAcc = crcFold crcInitial p := rfl
@[simp] theorem takeFrame_reqBuf (s : State) (p : List Byte) (check : Byte) : (s.takeFrame p check).reqBuf = s.reqBuf := rfl
@[simp] theorem takeFrame_reqLen (s : State) (p : List Byte) (check : Byte) : (s.takeFrame p check).reqLen = s.reqLen := rfl
@[simp] theorem takeFrame_encState (s : State) (p : List Byte) (check : Byte) : (s.takeFrame p check).encState = s.encState := rfl
@[simp] theorem takeFrame_encIdx (s : State) (p : List Byte) (check : Byte) : (s.takeFrame p check).encIdx = s.encIdx := rfl
@[simp] theorem takeFrame_decState (s : State) (p : List Byte) (check : Byte) : (s.takeFrame p check).decState = .endMark := rfl
@[simp] theorem takeFrame_decLen (s : State) (p : List Byte) (check : Byte) : (s.takeFrame p check).decLen = BitVec.ofNat 4 p.length := rfl
@[simp] theorem takeFrame_decIdx (s : State) (p : List Byte) (check : Byte) : (s.takeFrame p check).decIdx = BitVec.ofNat 4 p.length := rfl
@[simp] theorem takeFrame_rxBuf (s : State) (p : List Byte) (check : Byte) : (s.takeFrame p check).rxBuf = writeBytes s.rxBuf 0 p := rfl
@[simp] theorem takeFrame_decChk (s : State) (p : List Byte) (check : Byte) : (s.takeFrame p check).decChk = check := rfl
@[simp] theorem takeFrame_txnState (s : State) (p : List Byte) (check : Byte) : (s.takeFrame p check).txnState = s.txnState := rfl
@[simp] theorem takeFrame_attempt (s : State) (p : List Byte) (check : Byte) : (s.takeFrame p check).attempt = s.attempt := rfl
@[simp] theorem takeFrame_resTag (s : State) (p : List Byte) (check : Byte) : (s.takeFrame p check).resTag = s.resTag := rfl
@[simp] theorem takeFrame_lastErr (s : State) (p : List Byte) (check : Byte) : (s.takeFrame p check).lastErr = s.lastErr := rfl
@[simp] theorem takeFrame_fatal (s : State) (p : List Byte) (check : Byte) : (s.takeFrame p check).fatal = s.fatal := rfl
@[simp] theorem takeFrame_sessState (s : State) (p : List Byte) (check : Byte) : (s.takeFrame p check).sessState = s.sessState := rfl
@[simp] theorem takeFrame_curOp (s : State) (p : List Byte) (check : Byte) : (s.takeFrame p check).curOp = s.curOp := rfl
@[simp] theorem takeFrame_rplKind (s : State) (p : List Byte) (check : Byte) : (s.takeFrame p check).rplKind = s.rplKind := rfl
@[simp] theorem takeFrame_rplAlive (s : State) (p : List Byte) (check : Byte) : (s.takeFrame p check).rplAlive = s.rplAlive := rfl
@[simp] theorem takeFrame_rplStatus (s : State) (p : List Byte) (check : Byte) : (s.takeFrame p check).rplStatus = s.rplStatus := rfl
@[simp] theorem takeFrame_rplFlags (s : State) (p : List Byte) (check : Byte) : (s.takeFrame p check).rplFlags = s.rplFlags := rfl
@[simp] theorem takeFrame_rplHead (s : State) (p : List Byte) (check : Byte) : (s.takeFrame p check).rplHead = s.rplHead := rfl
@[simp] theorem takeFrame_rplTail (s : State) (p : List Byte) (check : Byte) : (s.takeFrame p check).rplTail = s.rplTail := rfl
@[simp] theorem takeFrame_rplCount (s : State) (p : List Byte) (check : Byte) : (s.takeFrame p check).rplCount = s.rplCount := rfl
@[simp] theorem takeFrame_rplEchoCount (s : State) (p : List Byte) (check : Byte) : (s.takeFrame p check).rplEchoCount = s.rplEchoCount := rfl
@[simp] theorem takeFrame_rplIrqCnt (s : State) (p : List Byte) (check : Byte) : (s.takeFrame p check).rplIrqCnt = s.rplIrqCnt := rfl
@[simp] theorem takeFrame_rplCmdCnt (s : State) (p : List Byte) (check : Byte) : (s.takeFrame p check).rplCmdCnt = s.rplCmdCnt := rfl
@[simp] theorem takeFrame_cmdPhase (s : State) (p : List Byte) (check : Byte) : (s.takeFrame p check).cmdPhase = s.cmdPhase := rfl
@[simp] theorem takeFrame_waiting (s : State) (p : List Byte) (check : Byte) : (s.takeFrame p check).waiting = false := rfl
@[simp] theorem takeFrame_schedule (s : State) (p : List Byte) (check : Byte) : (s.takeFrame p check).schedule = s.schedule := rfl
@[simp] theorem takeFrame_inputBuffer (s : State) (p : List Byte) (check : Byte) : (s.takeFrame p check).inputBuffer = s.inputBuffer := rfl
@[simp] theorem takeFrame_rxAnswers (s : State) (p : List Byte) (check : Byte) : (s.takeFrame p check).rxAnswers = s.rxAnswers := rfl
@[simp] theorem takeFrame_txAnswers (s : State) (p : List Byte) (check : Byte) : (s.takeFrame p check).txAnswers = s.txAnswers := rfl
@[simp] theorem takeFrame_lineAnswers (s : State) (p : List Byte) (check : Byte) : (s.takeFrame p check).lineAnswers = s.lineAnswers := rfl
@[simp] theorem takeFrame_txStream (s : State) (p : List Byte) (check : Byte) : (s.takeFrame p check).txStream = s.txStream := rfl
@[simp] theorem takeFrame_log (s : State) (p : List Byte) (check : Byte) : (s.takeFrame p check).log = s.log := rfl
@[simp] theorem takeFrame_calls (s : State) (p : List Byte) (check : Byte) : (s.takeFrame p check).calls = s.calls := rfl
@[simp] theorem takeFrame_results (s : State) (p : List Byte) (check : Byte) : (s.takeFrame p check).results = s.results := rfl
@[simp] theorem takeFrame_params (s : State) (p : List Byte) (check : Byte) : (s.takeFrame p check).params = s.params := rfl

/-! ### `hardReset` -/

@[simp] theorem hardReset_crcAcc (s : State) : s.hardReset.crcAcc = State.reset.crcAcc := rfl
@[simp] theorem hardReset_reqBuf (s : State) : s.hardReset.reqBuf = State.reset.reqBuf := rfl
@[simp] theorem hardReset_reqLen (s : State) : s.hardReset.reqLen = State.reset.reqLen := rfl
@[simp] theorem hardReset_encState (s : State) : s.hardReset.encState = State.reset.encState := rfl
@[simp] theorem hardReset_encIdx (s : State) : s.hardReset.encIdx = State.reset.encIdx := rfl
@[simp] theorem hardReset_decState (s : State) : s.hardReset.decState = State.reset.decState := rfl
@[simp] theorem hardReset_decLen (s : State) : s.hardReset.decLen = State.reset.decLen := rfl
@[simp] theorem hardReset_decIdx (s : State) : s.hardReset.decIdx = State.reset.decIdx := rfl
@[simp] theorem hardReset_rxBuf (s : State) : s.hardReset.rxBuf = State.reset.rxBuf := rfl
@[simp] theorem hardReset_decChk (s : State) : s.hardReset.decChk = State.reset.decChk := rfl
@[simp] theorem hardReset_txnState (s : State) : s.hardReset.txnState = State.reset.txnState := rfl
@[simp] theorem hardReset_attempt (s : State) : s.hardReset.attempt = State.reset.attempt := rfl
@[simp] theorem hardReset_resTag (s : State) : s.hardReset.resTag = State.reset.resTag := rfl
@[simp] theorem hardReset_lastErr (s : State) : s.hardReset.lastErr = State.reset.lastErr := rfl
@[simp] theorem hardReset_fatal (s : State) : s.hardReset.fatal = State.reset.fatal := rfl
@[simp] theorem hardReset_sessState (s : State) : s.hardReset.sessState = State.reset.sessState := rfl
@[simp] theorem hardReset_curOp (s : State) : s.hardReset.curOp = State.reset.curOp := rfl
@[simp] theorem hardReset_rplKind (s : State) : s.hardReset.rplKind = State.reset.rplKind := rfl
@[simp] theorem hardReset_rplAlive (s : State) : s.hardReset.rplAlive = State.reset.rplAlive := rfl
@[simp] theorem hardReset_rplStatus (s : State) : s.hardReset.rplStatus = State.reset.rplStatus := rfl
@[simp] theorem hardReset_rplFlags (s : State) : s.hardReset.rplFlags = State.reset.rplFlags := rfl
@[simp] theorem hardReset_rplHead (s : State) : s.hardReset.rplHead = State.reset.rplHead := rfl
@[simp] theorem hardReset_rplTail (s : State) : s.hardReset.rplTail = State.reset.rplTail := rfl
@[simp] theorem hardReset_rplCount (s : State) : s.hardReset.rplCount = State.reset.rplCount := rfl
@[simp] theorem hardReset_rplEchoCount (s : State) : s.hardReset.rplEchoCount = State.reset.rplEchoCount := rfl
@[simp] theorem hardReset_rplIrqCnt (s : State) : s.hardReset.rplIrqCnt = State.reset.rplIrqCnt := rfl
@[simp] theorem hardReset_rplCmdCnt (s : State) : s.hardReset.rplCmdCnt = State.reset.rplCmdCnt := rfl
@[simp] theorem hardReset_cmdPhase (s : State) : s.hardReset.cmdPhase = State.reset.cmdPhase := rfl
@[simp] theorem hardReset_waiting (s : State) : s.hardReset.waiting = State.reset.waiting := rfl
@[simp] theorem hardReset_schedule (s : State) : s.hardReset.schedule = s.schedule := rfl
@[simp] theorem hardReset_inputBuffer (s : State) : s.hardReset.inputBuffer = s.inputBuffer := rfl
@[simp] theorem hardReset_rxAnswers (s : State) : s.hardReset.rxAnswers = s.rxAnswers := rfl
@[simp] theorem hardReset_txAnswers (s : State) : s.hardReset.txAnswers = s.txAnswers := rfl
@[simp] theorem hardReset_lineAnswers (s : State) : s.hardReset.lineAnswers = s.lineAnswers := rfl
@[simp] theorem hardReset_txStream (s : State) : s.hardReset.txStream = s.txStream := rfl
@[simp] theorem hardReset_log (s : State) : s.hardReset.log = s.log := rfl
@[simp] theorem hardReset_calls (s : State) : s.hardReset.calls = s.calls := rfl
@[simp] theorem hardReset_results (s : State) : s.hardReset.results = s.results := rfl
@[simp] theorem hardReset_params (s : State) : s.hardReset.params = s.params := rfl

end State

end Sys2Proof.Machine
end

