-- ==== Sys2Proof/Laws/Buffers.lean ====
section
/-! SUPPORT. What the buffer and stream operations do: `writeBytes`, `RxTake`, `TxPut`, the length byte. -/

namespace Sys2Proof.Machine

/-! ### `writeBytes` -/

/-- The list of a buffer after a write is the old list with its bytes replaced in place. -/
theorem writeBytes_getElem? (p : List Byte) (v : Buf) (k j : Nat) :
    (writeBytes v k p).toList[j]? =
      if k ≤ j ∧ j < k + p.length ∧ j < 15 then p[j - k]? else v.toList[j]? := by
  induction p generalizing v k with
  | nil =>
    have : ¬ (k ≤ j ∧ j < k + ([] : List Byte).length ∧ j < 15) := by simp; omega
    rw [if_neg this, writeBytes]
  | cons b bs ih =>
    rw [writeBytes, ih]
    by_cases hj : j = k
    · subst hj
      by_cases h15 : j < 15
      · rw [if_neg (by omega), if_pos (by simp; omega)]
        simp [h15]
      · rw [if_neg (by omega), if_neg (by omega)]
        simp [h15]
    · by_cases h : k + 1 ≤ j ∧ j < k + 1 + bs.length ∧ j < 15
      · rw [if_pos h, if_pos (by simp; omega), show j - k = (j - (k + 1)) + 1 by omega]
        simp
      · rw [if_neg h, if_neg (by simp; omega)]
        have hkj : k ≠ j := fun e => hj e.symm
        simp [hkj]

/-- The first bytes of a buffer after a payload of at most 15 bytes is written from index 0 are the payload. -/
theorem writeBytes_take (v : Buf) {p : List Byte} (h : p.length ≤ 15) :
    (writeBytes v 0 p).toList.take p.length = p := by
  apply List.ext_getElem?
  intro j
  rw [List.getElem?_take, writeBytes_getElem?]
  by_cases hj : j < p.length
  · rw [if_pos hj, if_pos ⟨Nat.zero_le _, by omega, by omega⟩, Nat.sub_zero]
  · rw [if_neg hj, List.getElem?_eq_none (by omega)]

/-- Writing a payload byte by byte is writing it whole: one more byte at the end. -/
theorem writeBytes_append (v : Buf) (k : Nat) (p q : List Byte) :
    writeBytes v k (p ++ q) = writeBytes (writeBytes v k p) (k + p.length) q := by
  induction p generalizing v k with
  | nil => simp [writeBytes]
  | cons b bs ih => simp [writeBytes, ih, Nat.add_assoc, Nat.add_comm 1]

theorem ofNat4_toNat {n : Nat} (h : n ≤ 15) : (BitVec.ofNat 4 n).toNat = n := by
  simp only [BitVec.toNat_ofNat]; omega

/-- What the latch leaves in `req_buf[0..req_len-1]` is the payload. -/
theorem State.latch_request (s : State) {p : List Byte} (h : p.length ≤ 15) : (s.latch p).request = p := by
  simp only [State.request, State.latch_reqBuf, State.latch_reqLen, ofNat4_toNat h, writeBytes_take _ h]

/-- What a frame taken whole leaves in `rx_buf[0..dec_len-1]` is its payload. -/
theorem State.takeFrame_received (s : State) {p : List Byte} (c : Byte) (h : p.length ≤ 15) :
    (s.takeFrame p c).received = p := by
  simp only [State.received, State.takeFrame_rxBuf, State.takeFrame_decLen, ofNat4_toNat h, writeBytes_take _ h]

/-! ### `RxTake` and `TxPut` -/

/-- `RxTake` takes the first answer of the RX stream, nothing else (R61). -/
theorem State.rxTake_some {s t : State} {a : RxAnswer} (h : s.rxTake = some (a, t)) :
    s.rxStream = a :: t.rxStream ∧
      t = { s with inputBuffer := t.inputBuffer, rxAnswers := t.rxAnswers, waiting := false } := by
  unfold State.rxTake at h
  split at h
  · rename_i b rest hb
    obtain ⟨rfl, rfl⟩ := Prod.mk.inj (Option.some.inj h)
    exact ⟨by simp [State.rxStream, byteAnswers, hb], rfl⟩
  · rename_i hb
    split at h
    · rename_i c rest hc
      obtain ⟨rfl, rfl⟩ := Prod.mk.inj (Option.some.inj h)
      exact ⟨by simp [State.rxStream, byteAnswers, hb, hc], rfl⟩
    · exact nomatch h

/-- `RxTake` waits exactly when the RX stream is empty (R61). -/
theorem State.rxTake_none {s : State} : s.rxTake = none ↔ s.rxStream = [] := by
  unfold State.rxTake State.rxStream byteAnswers
  cases s.inputBuffer <;> cases s.rxAnswers <;> simp

/-- `TxPut` takes the first answer; on `Ok` the byte is the next of the TX stream (R62). -/
theorem State.txPut_some {s t : State} {b : Byte} {a : LineAnswer} (h : s.txPut b = some (a, t)) :
    s.txAnswers = a :: t.txAnswers ∧
      t = { s with
        txAnswers := t.txAnswers, waiting := false
        txStream := s.txStream ++ (match a with | .ok => [b] | .fault => []) } := by
  unfold State.txPut at h
  split at h
  · rename_i rest hr
    obtain ⟨rfl, rfl⟩ := Prod.mk.inj (Option.some.inj h)
    exact ⟨hr, rfl⟩
  · rename_i rest hr
    obtain ⟨rfl, rfl⟩ := Prod.mk.inj (Option.some.inj h)
    exact ⟨hr, by simp⟩
  · exact nomatch h

/-- `TxPut` waits exactly when no answer is left (R62). -/
theorem State.txPut_none {s : State} {b : Byte} : s.txPut b = none ↔ s.txAnswers = [] := by
  unfold State.txPut
  split <;> simp_all

/-! ### The checksum and the length byte -/

theorem crcFold_nil (a : Word) : crcFold a [] = a := rfl

theorem crcFold_concat (a : Word) (p : List Byte) (b : Byte) :
    crcFold a (p ++ [b]) = crcUpdate (crcFold a p) b := by
  simp [crcFold]

theorem crcCheck_crcFold (p : List Byte) : crcCheck (crcFold crcInitial p) = chk8 p := rfl

theorem lenByte_nibbles (n : Nibble) :
    (lenByte n).extractLsb' 0 4 = n ∧ (lenByte n).extractLsb' 4 4 = n ^^^ 0xF := by
  revert n; decide

end Sys2Proof.Machine
end

