-- ==== Sys2Proof/Laws/Encoding.lean ====
section
/-! SUPPORT. What the operand packers and the field decoders do, said once each: 16-bit and 32-bit fields, axes, directions,
length bytes. -/

namespace Sys2Proof

open Machine

/-! ### Big-endian fields -/

theorem append_toNat {n m : Nat} (a : BitVec n) (b : BitVec m) : (a ++ b).toNat = a.toNat * 2 ^ m + b.toNat := by
  rw [BitVec.toNat_append, ← Nat.shiftLeft_add_eq_or_of_lt b.isLt, Nat.shiftLeft_eq]

theorem ube16_toNat (hi lo : Byte) : (ube16 hi lo).toNat = hi.toNat * 256 + lo.toNat :=
  append_toNat hi lo

theorem ube32_toNat (a b c d : Byte) :
    (ube32 a b c d).toNat = a.toNat * 2 ^ 24 + b.toNat * 2 ^ 16 + c.toNat * 2 ^ 8 + d.toNat := by
  have h1 := append_toNat (a ++ b ++ c) d
  rw [append_toNat (a ++ b) c, append_toNat a b] at h1
  show (a ++ b ++ c ++ d).toNat = _
  rw [h1]; ring

/-- Reading back the two bytes of a 16-bit field gives the field. -/
theorem ube16_extract (v : Half) : ube16 (v.extractLsb' 8 8) (v.extractLsb' 0 8) = v := by
  apply BitVec.eq_of_toNat_eq
  rw [ube16_toNat]
  have := v.isLt
  simp only [BitVec.extractLsb'_toNat, Nat.shiftRight_eq_div_pow]; omega

/-- Reading back the four bytes of a 32-bit field gives the field. -/
theorem ube32_extract (v : Word) :
    ube32 (v.extractLsb' 24 8) (v.extractLsb' 16 8) (v.extractLsb' 8 8) (v.extractLsb' 0 8) = v := by
  apply BitVec.eq_of_toNat_eq
  rw [ube32_toNat]
  have := v.isLt
  simp only [BitVec.extractLsb'_toNat, Nat.shiftRight_eq_div_pow]; omega

/-! ### Axes, directions, length bytes -/

theorem axisInByte_iff (v : Int) : axisInByte v = true ↔ 0 ≤ v ∧ v ≤ 255 := by
  unfold axisInByte
  rw [Bool.and_eq_true, decide_eq_true_iff, decide_eq_true_iff]; rfl

theorem axisInByte_axisOf (b : Byte) : axisInByte (axisOf b) = true := by
  revert b; decide

/-- `CLAMP` saturates (R231). -/
theorem axisOf_clamp (v : Int) : axisOf (clamp v) = max 0 (min 255 v) := by
  unfold axisOf clamp Config.axisMin Config.axisMax
  by_cases h0 : v < 0
  · simp [h0]; omega
  · by_cases h1 : 255 < v
    · simp [h0, h1]; omega
    · simp [h0, h1]; omega

theorem clamp_axisOf (b : Byte) : clamp (axisOf b) = b := by
  revert b; decide

/-- The nine codes differ (R101). -/
theorem hatCode_inj (t : HatTable) (a b : Direction) : hatCode t a = hatCode t b ↔ a = b := by
  refine ⟨fun h => ?_, fun h => h ▸ rfl⟩
  have h' : t.codes.toList[(dirIndex a).1]'(by simp) = t.codes.toList[(dirIndex b).1]'(by simp) := by
    simpa [hatCode] using h
  have hi : dirIndex a = dirIndex b := Fin.ext ((t.distinct.getElem_inj_iff).mp h')
  clear h h'; revert hi; cases a <;> cases b <;> decide

theorem hatDirection_hatCode (t : HatTable) (d : Direction) : hatDirection t (hatCode t d) = some d := by
  have h : (fun x => hatCode t x == hatCode t d) = fun x => decide (x = d) := by
    funext x; rw [Bool.eq_iff_iff]; simp [hatCode_inj]
  rw [hatDirection, h]; cases d <;> decide

theorem hatCode_of_hatDirection {t : HatTable} {b : Byte} {d : Direction} (h : hatDirection t b = some d) :
    hatCode t d = b := by
  simpa using List.find?_some h

theorem lenOfByte_lenByte (n : Nibble) : lenOfByte (lenByte n) = some n := by
  revert n; decide

theorem lenByte_of_lenOfByte {b : Byte} {n : Nibble} (h : lenOfByte b = some n) : lenByte n = b := by
  revert h; revert n b; decide

/-! ### Commands: the two directions between a command and its words, and between a command and its row -/

theorem build_cons (t : HatTable) (c : Command) : build t c = c.op :: (build t c).tail := by
  obtain ⟨op, o⟩ := c; cases o <;> rfl

/-- What the decoder of a shape reads from the words the builder of the shape wrote (R97): the operands, their axes saturated
(R100). -/
theorem decodeOperands_build (t : HatTable) (c : Command) :
    decodeOperands t c.op (build t c).tail c.operands.shape = .ok c.operands.saturated := by
  obtain ⟨op, _ | ⟨m, _ | d⟩ | ⟨x, y, _ | d⟩ | ⟨dir, _ | d⟩ | d | ⟨m, lx, ly, rx, ry, dir, _ | d⟩⟩ := c <;>
    simp [build, buildEmpty, buildBtn, buildStk, buildHat, buildMsec, buildAll, be16, durationBytes, Operands.shape,
      decodeOperands, decodeEmpty, decodeBtn, decodeStk, decodeHat, decodeMsec, decodeAll, withDirection,
      hatDirection_hatCode, ube16_extract, axisOf_clamp, Operands.saturated, saturate]

theorem be16_ube16 (hi lo : Byte) : be16 (ube16 hi lo) = [hi, lo] := by
  have h1 : (ube16 hi lo).extractLsb' 8 8 = hi := by
    apply BitVec.eq_of_toNat_eq
    have := hi.isLt
    have := lo.isLt
    simp only [BitVec.extractLsb'_toNat, ube16_toNat, Nat.shiftRight_eq_div_pow]; omega
  have h0 : (ube16 hi lo).extractLsb' 0 8 = lo := by
    apply BitVec.eq_of_toNat_eq
    have := hi.isLt
    have := lo.isLt
    simp only [BitVec.extractLsb'_toNat, ube16_toNat, Nat.shiftRight_eq_div_pow]; omega
  rw [be16, h1, h0]

theorem withDirection_ok {t : HatTable} {b : Byte} {f : Direction → Operands} {o : Operands}
    (h : withDirection t b f = .ok o) : ∃ d, o = f d ∧ hatCode t d = b := by
  unfold withDirection at h
  split at h
  · exact ⟨_, (Except.ok.inj h).symm, hatCode_of_hatDirection (by assumption)⟩
  · exact nomatch h

/-- Words the decoder of a shape accepts are those the builder writes for the operands it answers, which are of the shape and
have byte axes (R97). -/
theorem build_of_decodeOperands {t : HatTable} {op : Byte} {bs : List Byte} {sh : Shape} {o : Operands}
    (h : decodeOperands t op bs sh = .ok o) : build t ⟨op, o⟩ = op :: bs ∧ o.shape = sh ∧ o.inBytes = true := by
  cases sh <;> simp only [decodeOperands, decodeEmpty, decodeBtn, decodeStk, decodeHat, decodeMsec, decodeAll] at h <;>
    split at h <;> first
    | (cases h; done)
    | (obtain ⟨d, rfl, rfl⟩ := withDirection_ok h
       simp [build, buildHat, buildAll, durationBytes, be16_ube16, Operands.shape, Operands.inBytes, clamp_axisOf,
         axisInByte_axisOf])
    | (cases h
       simp [build, buildEmpty, buildBtn, buildStk, buildMsec, durationBytes, be16_ube16, Operands.shape,
         Operands.inBytes, clamp_axisOf, axisInByte_axisOf])

theorem saturated_of_inBytes {o : Operands} (h : o.inBytes = true) : o.saturated = o := by
  cases o <;> simp_all [Operands.inBytes, Operands.saturated, saturate, axisInByte_iff]

/-- The rows and the commands they are correspond one to one (R102, R103). -/
theorem rowOf_eq_some {c : Command} {i : Instr} : rowOf c = some i ↔ commandOf i = some c := by
  constructor
  · obtain ⟨op, _ | ⟨m, _ | d⟩ | ⟨x, y, _ | d⟩ | ⟨dir, _ | d⟩ | d | ⟨m, lx, ly, rx, ry, dir, _ | d⟩⟩ := c <;>
      (simp only [rowOf, rowOfEmpty, rowOfBtn, rowOfStk, rowOfHat, rowOfMsec, rowOfAll]
       intro h
       split_ifs at h <;> (cases h; subst_vars; rfl))
  · intro h; cases i <;> cases h <;> rfl

theorem encode_of_commandOf {P : Params} {i : Instr} {c : Command} (h : commandOf i = some c) :
    encode P i = build P.hat c := by
  cases i <;> cases h <;> rfl

theorem portOf_of_commandOf {i : Instr} {c : Command} (h : commandOf i = some c) : portOf i = .typed := by
  cases i <;> cases h <;> rfl

theorem commandOf_of_typed {i : Instr} (h : portOf i = .typed) : ∃ c, commandOf i = some c := by
  cases i <;> first | exact ⟨_, rfl⟩ | exact nomatch h

theorem commandOf_saturated {i : Instr} {c : Command} (h : commandOf i = some c) :
    commandOf i.saturated = some ⟨c.op, c.operands.saturated⟩ := by
  cases i <;> cases h <;> rfl

theorem inRange_of_commandOf {i : Instr} {c : Command} (h : commandOf i = some c) : i.inRange = c.operands.inBytes := by
  cases i <;> cases h <;> rfl

theorem ofShape_of_commandOf {P : Params} {i : Instr} {c : Command} (h : commandOf i = some c) :
    i.ofShape P = c.ofShape P := by
  simp [Instr.ofShape, h]

end Sys2Proof
end

