-- ==== Sys2Proof/Laws/Ops.lean ====
section
/-! SUPPORT. What each shared operation can do, said once: the handing over of a result, the failed attempt, admission, and
the steps of the encoder, the decoder and the block. -/

namespace Sys2Proof.Machine

open Host (Outcome)

/-- The terminal outcome goes to R209's line 5 or to the host. -/
theorem State.finish_cases (s : State) :
    (s.cmdPhase = .running ∧ s.finish = { s with cmdPhase := .replyDue }) ∨
      (s.cmdPhase ≠ .running ∧ s.finish = s.give s.executeResult) := by
  unfold State.finish
  cases h : s.cmdPhase
  · exact .inr ⟨nofun, rfl⟩
  · exact .inl ⟨rfl, rfl⟩
  · exact .inr ⟨nofun, rfl⟩

/-- Handing over changes no register, only R209's place and the results. -/
theorem State.finish_frame (s : State) :
    s.finish = { s with cmdPhase := s.finish.cmdPhase, results := s.finish.results } := by
  rcases s.finish_cases with ⟨-, h⟩ | ⟨-, h⟩ <;> simp only [h, State.give]

/-- A failed attempt (R322): the third ends the transaction (R198), an earlier one is retried (R323). -/
theorem State.failAttempt_cases (s : State) (c : Cause) :
    (s.attempt = 3 ∧
      s.failAttempt c =
        { s with
          decState := .idle, lastErr := c, log := s.log ++ [(3, c)], resTag := .exhausted,
          txnState := .idle }.finish) ∨
    (s.attempt ≠ 3 ∧
      s.failAttempt c =
        { s with
          decState := .idle, lastErr := c, log := s.log ++ [(s.attempt, c)], attempt := s.attempt + 1,
          txnState := .send, encState := .start, waiting := false }) := by
  unfold State.failAttempt
  by_cases h : s.attempt = 3
  · refine .inl ⟨h, ?_⟩
    rw [if_pos (show s.attempt = Config.maxAttempts from h), ← h]
    rfl
  · refine .inr ⟨h, ?_⟩
    rw [if_neg (show ¬ s.attempt = Config.maxAttempts from h)]
    rfl

/-- Admission from the Session test on (R191): the first attempt of the latched request, or a fatal result at once. -/
theorem State.runExecute_cases (s : State) (p : List Byte) :
    (s.usable = true ∧
      s.runExecute p =
        { s with
          reqBuf := writeBytes s.reqBuf 0 p, reqLen := BitVec.ofNat 4 p.length, attempt := 1, resTag := .none,
          lastErr := .none, sessState := .active, txnState := .send, encState := .start, waiting := false }) ∨
    (s.usable = false ∧ s.runExecute p = { s with resTag := .fatal, lastErr := .transport }.finish) := by
  unfold State.runExecute
  cases h : s.usable
  · simp
  · left
    exact ⟨rfl, rfl⟩

/-- `EXECUTE` (R191). -/
theorem State.execute_cases (s : State) (p : List Byte) :
    (s.txnState ≠ .idle ∧ s.execute p = s.give (.refused .busy)) ∨
    (s.txnState = .idle ∧ 15 < p.length ∧ s.execute p = s.give (.refused .payloadTooLong)) ∨
    (s.txnState = .idle ∧ p.length ≤ 15 ∧ s.execute p = { s with cmdPhase := .none }.runExecute p) := by
  unfold State.execute State.busy
  by_cases h : s.txnState = .idle
  · by_cases hp : 15 < p.length
    · simp [h, hp, Config.maxPayload]
    · simp [h, hp, Config.maxPayload]; omega
  · simp [h]

/-- `COMMAND` (R209). -/
theorem State.command_cases (s : State) (p : List Byte) :
    (s.txnState ≠ .idle ∧ s.command p = s.give (.refused .busy)) ∨
    (s.txnState = .idle ∧
      s.command p = { s with curOp := p.headD 0, rplKind := .none, cmdPhase := .running }.runExecute p) := by
  unfold State.command State.busy
  by_cases h : s.txnState = .idle <;> simp [h]

/-- The end of a frame (R159, R193). -/
theorem State.endFrame_cases (s : State) :
    (s.decChk ≠ crcCheck s.crcAcc ∧ s.endFrame = s.failAttempt .integrity) ∨
    (s.decChk = crcCheck s.crcAcc ∧ s.decLen = 0 ∧ s.endFrame = s.failAttempt .emptyReply) ∨
    (s.decChk = crcCheck s.crcAcc ∧ s.decLen ≠ 0 ∧ s.endFrame = s.succeed) := by
  unfold State.endFrame
  by_cases h : s.decChk = crcCheck s.crcAcc
  · rw [if_neg (not_not.mpr h)]
    by_cases h0 : s.decLen = 0
    · exact .inr (.inl ⟨h, h0, by rw [if_pos h0]⟩)
    · exact .inr (.inr ⟨h, h0, by rw [if_neg h0]⟩)
  · exact .inl ⟨h, by rw [if_pos h]⟩

/-- One step of the send sequence (R152). -/
theorem State.sendStep_cases (s : State) :
    (s.encState = .idle ∧ s.sendStep = .next s) ∨
    (s.encState = .payload ∧ s.encIdx = 15 ∧ s.sendStep = .fault .reqBufIndex) ∨
    (∃ b, s.encByte = some b ∧
      ((s.txAnswers = [] ∧ s.sendStep = .next { s with waiting := true }) ∨
       (∃ rest, s.txAnswers = .fault :: rest ∧
         s.sendStep = .next ({ s with txAnswers := rest, waiting := false }.transportError)) ∨
       (∃ rest, s.txAnswers = .ok :: rest ∧
         s.sendStep = .next
           ({ s with txAnswers := rest, txStream := s.txStream ++ [b], waiting := false }.encAdvance b)))) := by
  unfold State.sendStep
  by_cases h0 : s.encState = .idle
  · exact .inl ⟨h0, by simp [h0]⟩
  · right
    cases hb : s.encByte with
    | none =>
      left
      unfold State.encByte at hb
      cases he : s.encState <;> simp [he] at hb h0 ⊢
      have := s.encIdx.isLt
      exact BitVec.eq_of_toNat_eq (by simp; omega)
    | some b =>
      right
      refine ⟨b, rfl, ?_⟩
      cases ha : s.txAnswers with
      | nil => left; exact ⟨rfl, by simp [h0, State.txPut, ha]⟩
      | cons a rest =>
        cases a with
        | ok => right; right; exact ⟨rest, rfl, by simp [h0, State.txPut, ha]⟩
        | fault => right; left; exact ⟨rest, rfl, by simp [h0, State.txPut, ha]⟩

/-- One step of the decoder (R154 to R162): it waits, or takes the first answer of the RX stream. -/
theorem State.awaitStep_cases (s : State) :
    (s.decState = .idle ∧ s.awaitStep = .next s) ∨
    (s.decState ≠ .idle ∧ s.rxStream = [] ∧ s.awaitStep = .next { s with waiting := true }) ∨
    (s.decState ≠ .idle ∧ ∃ a ib ra,
      s.rxStream = a :: (byteAnswers ib ++ ra) ∧
      s.rxTake = some (a, { s with inputBuffer := ib, rxAnswers := ra, waiting := false }) ∧
      s.awaitStep = { s with inputBuffer := ib, rxAnswers := ra, waiting := false }.awaitAnswer a) := by
  unfold State.awaitStep
  by_cases h0 : s.decState = .idle
  · exact .inl ⟨h0, by simp [h0]⟩
  · right
    cases ht : s.rxTake with
    | none => exact .inl ⟨h0, State.rxTake_none.mp ht, by simp [h0]⟩
    | some at' =>
      obtain ⟨a, t⟩ := at'
      obtain ⟨h1, h2⟩ := State.rxTake_some ht
      right
      refine ⟨h0, a, t.inputBuffer, t.rxAnswers, h1, by rw [← h2], ?_⟩
      rw [← h2]
      simp [h0]

/-- One step of the block on its own (R193, R208). -/
theorem State.blockStep_cases (s : State) :
    (s.txnState = .idle ∧ s.blockStep = .next s) ∨
    (s.txnState ≠ .idle ∧ s.sessState = .closed ∧ s.waiting = false ∧ s.blockStep = .next s.transportError) ∨
    (s.txnState = .send ∧ (s.sessState ≠ .closed ∨ s.waiting = true) ∧ s.blockStep = s.sendStep) ∨
    (s.txnState = .await ∧ (s.sessState ≠ .closed ∨ s.waiting = true) ∧ s.blockStep = s.awaitStep) := by
  unfold State.blockStep
  cases h : s.txnState <;> by_cases hc : s.sessState = .closed <;> cases hw : s.waiting <;> simp [hc]

end Sys2Proof.Machine
end

