-- ==== Sys2Proof/Laws/PerInstr.lean ====
section
/-! SUPPORT. Statements about every instruction as syntax, one lemma per constructor. Family `WordsBound`: the words of a
well-formed instruction fit its port: a payload of at most 15 bytes (R22, R90), a frame of 4 bytes more. -/

namespace Sys2Proof.Laws

open Machine

namespace WordsBound

/-- A well-formed instruction has at most 15 bytes of words, but for a frame, which has 4 to 19. -/
def Statement (i : Instr) : Prop :=
  ∀ P : Params, i.wellFormed P = true →
    if portOf i = .wire then 4 ≤ (encode P i).length ∧ (encode P i).length ≤ 19 else (encode P i).length ≤ 15

/-- A typed command's words are at most 10 bytes, whatever its operands (R238). -/
theorem typed_length (P : Params) (i : Instr) (h : portOf i = .typed) : (encode P i).length ≤ 10 := by
  cases i <;>
    first
    | (cases h; done)
    | (simp only [encode, buildEmpty, buildBtn, buildStk, buildHat, buildMsec, buildAll, be16, durationBytes,
        List.length_cons, List.length_append, List.length_nil]; omega)

theorem of_typed (i : Instr) (h : portOf i = .typed) : Statement i := by
  intro P _
  rw [if_neg (by rw [h]; nofun)]
  exact Nat.le_trans (typed_length P i h) (by omega)

theorem inRange_of_wellFormed {P : Params} {i : Instr} (h : i.wellFormed P = true) : i.inRange = true :=
  (Bool.and_eq_true_iff.mp h).2

theorem of_bytes {bs : List Byte} (h : decide (bs.length ≤ Config.maxPayload) = true) : bs.length ≤ 15 :=
  of_decide_eq_true h

theorem test : Statement .test :=
  of_typed _ rfl

theorem queryState : Statement .queryState :=
  of_typed _ rfl

theorem debug : Statement .debug :=
  of_typed _ rfl

theorem getUsbOutData : Statement .getUsbOutData :=
  of_typed _ rfl

theorem setAll (mask : Half) (leftX leftY rightX rightY : Int) (dir : Direction) :
    Statement (.setAll mask leftX leftY rightX rightY dir) :=
  of_typed _ rfl

theorem setAllD (mask : Half) (leftX leftY rightX rightY : Int) (dir : Direction) (msec : Half) :
    Statement (.setAllD mask leftX leftY rightX rightY dir msec) :=
  of_typed _ rfl

theorem setButtons (mask : Half) : Statement (.setButtons mask) :=
  of_typed _ rfl

theorem setButtonsD (mask msec : Half) : Statement (.setButtonsD mask msec) :=
  of_typed _ rfl

theorem setLeftJoy (axisX axisY : Int) : Statement (.setLeftJoy axisX axisY) :=
  of_typed _ rfl

theorem setLeftJoyD (axisX axisY : Int) (msec : Half) : Statement (.setLeftJoyD axisX axisY msec) :=
  of_typed _ rfl

theorem setRightJoy (axisX axisY : Int) : Statement (.setRightJoy axisX axisY) :=
  of_typed _ rfl

theorem setRightJoyD (axisX axisY : Int) (msec : Half) : Statement (.setRightJoyD axisX axisY msec) :=
  of_typed _ rfl

theorem setHat (dir : Direction) : Statement (.setHat dir) :=
  of_typed _ rfl

theorem setHatD (dir : Direction) (msec : Half) : Statement (.setHatD dir msec) :=
  of_typed _ rfl

theorem unsetAll : Statement .unsetAll :=
  of_typed _ rfl

theorem setDownMsec (msec : Half) : Statement (.setDownMsec msec) :=
  of_typed _ rfl

theorem pressAll (mask : Half) (leftX leftY rightX rightY : Int) (dir : Direction) :
    Statement (.pressAll mask leftX leftY rightX rightY dir) :=
  of_typed _ rfl

theorem pressAllD (mask : Half) (leftX leftY rightX rightY : Int) (dir : Direction) (msec : Half) :
    Statement (.pressAllD mask leftX leftY rightX rightY dir msec) :=
  of_typed _ rfl

theorem pressButtons (mask : Half) : Statement (.pressButtons mask) :=
  of_typed _ rfl

theorem pressButtonsD (mask msec : Half) : Statement (.pressButtonsD mask msec) :=
  of_typed _ rfl

theorem moveLeftJoy (axisX axisY : Int) : Statement (.moveLeftJoy axisX axisY) :=
  of_typed _ rfl

theorem moveLeftJoyD (axisX axisY : Int) (msec : Half) : Statement (.moveLeftJoyD axisX axisY msec) :=
  of_typed _ rfl

theorem moveRightJoy (axisX axisY : Int) : Statement (.moveRightJoy axisX axisY) :=
  of_typed _ rfl

theorem moveRightJoyD (axisX axisY : Int) (msec : Half) : Statement (.moveRightJoyD axisX axisY msec) :=
  of_typed _ rfl

theorem pressHat (dir : Direction) : Statement (.pressHat dir) :=
  of_typed _ rfl

theorem pressHatD (dir : Direction) (msec : Half) : Statement (.pressHatD dir msec) :=
  of_typed _ rfl

theorem clearState : Statement .clearState :=
  of_typed _ rfl

theorem pauseMsec (msec : Half) : Statement (.pauseMsec msec) :=
  of_typed _ rfl

theorem reportPending : Statement .reportPending :=
  of_typed _ rfl

theorem raw (bs : List Byte) : Statement (.raw bs) :=
  fun _ h => of_bytes (inRange_of_wellFormed h)

theorem frame (p : List Byte) (check : Byte) : Statement (.frame p check) := by
  intro P h
  have hp : p.length ≤ 15 := of_bytes (Bool.and_eq_true_iff.mp (inRange_of_wellFormed h)).1
  simp only [portOf, encode, frameBytes, List.length_append, List.length_cons, List.length_nil, if_true]
  omega

theorem replyAlive (bs : List Byte) : Statement (.replyAlive bs) :=
  fun _ h => of_bytes (inRange_of_wellFormed h)

theorem replyStatus (code : Nibble) : Statement (.replyStatus code) :=
  fun _ _ => Nat.le_of_ble_eq_true rfl

theorem replyState (f h t c : Byte) (irq cmd : Word) (e : Byte) : Statement (.replyState f h t c irq cmd e) :=
  fun _ _ => Nat.le_of_ble_eq_true rfl

end WordsBound

end Sys2Proof.Laws
end

