-- ==== Sys2Proof/Laws/Step.lean ====
section
/-! SUPPORT. What a step can do, said once: the inversion of the fetch, and the two shapes of a meaning. -/

namespace Sys2Proof.Machine

open Host (Outcome)

/-- A typed command's meaning is `COMMAND` of its words (R209). -/
theorem exec_typed (i : Instr) (s : State) (h : portOf i = .typed) : exec i s =
    .next (s.command (encode s.params i)) := by
  cases i <;> first | rfl | exact nomatch h

/-- No meaning stops: every instruction ends in a next state. -/
theorem exec_next (i : Instr) (s : State) : ∃ t, exec i s = .next t := by
  cases i
  case frame p c => simp only [exec, execFrame]; split <;> exact ⟨_, rfl⟩
  case replyStatus n => simp only [exec, execReplyStatus]; split <;> exact ⟨_, rfl⟩
  all_goals exact ⟨_, rfl⟩

/-- The order in which a step looks at reset, the reply due, the host's event and the block (R320). -/
theorem fetch_cases (s : State) :
    (∃ rest, s.schedule = .reset :: rest ∧ fetch s = .act (.next { s with schedule := rest }.hardReset)) ∨
    (s.cmdPhase = .replyDue ∧ (∀ rest, s.schedule ≠ .reset :: rest) ∧ fetch s = fetchReply s) ∨
    (s.cmdPhase ≠ .replyDue ∧ s.schedule = [] ∧ fetch s = .act s.blockStep) ∨
    (s.cmdPhase ≠ .replyDue ∧ ∃ e rest, e ≠ .reset ∧ s.schedule = e :: rest ∧ fetch s = fetchEvent e rest s) := by
  unfold fetch
  split
  · by_cases h : s.cmdPhase = .replyDue <;> simp_all
  · exact .inl ⟨_, by assumption, rfl⟩
  · rename_i e rest hr hs
    by_cases h : s.cmdPhase = .replyDue
    · refine .inr (.inl ⟨h, fun r hr' => hr ?_, by simp [h]⟩)
      exact (List.cons.inj (hs.symm.trans hr')).1
    · exact .inr (.inr (.inr ⟨h, e, rest, hr, hs, by simp [h]⟩))

/-- What `takeOutside` takes is one of the events, and no operation of the host. -/
theorem takeOutside_some {es later : List HostEvent} {e : HostEvent} (h : takeOutside es = some (e, later)) :
    e ∈ es ∧ e.isOperation = false := by
  induction es generalizing later with
  | nil => exact nomatch h
  | cons x es ih =>
    simp only [takeOutside] at h
    split at h
    · obtain ⟨⟨e', l⟩, hl, he⟩ := Option.map_eq_some_iff.mp h
      cases he
      exact ⟨.tail _ (ih hl).1, (ih hl).2⟩
    · cases h
      rename_i hx
      exact ⟨.head _, Bool.not_eq_true _ ▸ hx⟩

/-- What a waiting `SESSION_OPEN` lets happen (log 8): a reset; else bytes arrive or at most one answer does, or nothing, and no
register changes. -/
theorem openWaits_cases (d : List Byte) (b : Nat) (rest : List HostEvent) (s : State) :
    (∃ later, .reset ∈ rest ∧ openWaits d b rest s = { s with schedule := later }.hardReset) ∨
    openWaits d b rest s = s ∨
    (∃ later, openWaits d b rest s = { s with schedule := .sessionOpen d b :: later }) ∨
    (∃ later bs, openWaits d b rest s = { s with schedule := .sessionOpen d b :: later }.arrive bs) ∨
    (∃ later a, openWaits d b rest s = { s with schedule := .sessionOpen d b :: later }.answered a) := by
  unfold openWaits
  cases h : takeOutside rest with
  | none => exact .inr (.inl rfl)
  | some x =>
    obtain ⟨e, later⟩ := x
    cases e with
    | reset => exact .inl ⟨later, (takeOutside_some h).1, rfl⟩
    | pass => exact .inr (.inr (.inl ⟨later, rfl⟩))
    | words p bs => exact .inr (.inr (.inr (.inl ⟨later, bs, rfl⟩)))
    | answer a => exact .inr (.inr (.inr (.inr ⟨later, a, rfl⟩)))
    | sessionOpen => exact .inr (.inl rfl)
    | sessionClose => exact .inr (.inl rfl)
    | call => exact .inr (.inl rfl)
    | command => exact .inr (.inl rfl)

/-- One event is one answer. -/
theorem TransportAnswer.one_answer (a : TransportAnswer) :
    a.toTxPut.length + a.toRxTake.length + a.toLine.length = 1 := by
  cases a <;> rfl

/-- What the transport's answer does (R320 (b)): kept with no call of its kind in progress; else taken at once, an `Ok` putting
the byte offered, a `Timeout` failing the attempt, a `Fault` ending the transaction. -/
theorem State.answer_cases (s : State) (a : TransportAnswer) :
    ((s.putting = false ∨ a.toTxPut = []) ∧ (s.taking = false ∨ a.toRxTake = []) ∧
      s.answer a = .next (s.answered a)) ∨
    (s.putting = true ∧ ∃ r, a = .txPut r ∧ s.answer a = { s with txAnswers := r :: s.txAnswers }.sendStep) ∨
    (s.taking = true ∧ a = .rxTimeout ∧ s.answer a = .next ({ s with waiting := false }.failAttempt .readTimeout)) ∨
    (s.taking = true ∧ a = .rxFault ∧ s.answer a = .next { s with waiting := false }.transportError) := by
  cases a with
  | line r => exact .inl ⟨.inr rfl, .inr rfl, rfl⟩
  | txPut r =>
    cases h : s.putting
    · exact .inl ⟨.inl rfl, .inr rfl, by simp [State.answer, h]⟩
    · exact .inr (.inl ⟨rfl, r, rfl, by simp [State.answer, h]⟩)
  | rxTimeout =>
    cases h : s.taking
    · exact .inl ⟨.inr rfl, .inl rfl, by simp [State.answer, h]⟩
    · exact .inr (.inr (.inl ⟨rfl, rfl, by simp [State.answer, h, State.awaitAnswer]⟩))
  | rxFault =>
    cases h : s.taking
    · exact .inl ⟨.inr rfl, .inl rfl, by simp [State.answer, h]⟩
    · exact .inr (.inr (.inr ⟨rfl, rfl, by simp [State.answer, h, State.awaitAnswer]⟩))

/-- With no call in progress the transport's answer is kept (log 2). -/
theorem State.answer_of_not_waiting {s : State} (h : s.waiting = false) (a : TransportAnswer) :
    s.answer a = .next (s.answered a) := by
  cases a <;> simp [State.answer, State.putting, State.taking, h]

/-- An answer of the transport, with no reply due, is a step of its own (R320 (b)). -/
theorem step_answer {s : State} {a : TransportAnswer} {rest : List HostEvent} (h : s.cmdPhase ≠ .replyDue)
    (hs : s.schedule = .answer a :: rest) : step s = { s with schedule := rest }.answer a := by
  simp [step, fetch, h, hs, fetchEvent]

/-- With nothing due and nothing scheduled, a step is the block's own (R193). -/
theorem step_block {s : State} (h : s.cmdPhase ≠ .replyDue) (hs : s.schedule = []) : step s = s.blockStep := by
  simp [step, fetch, h, hs]

/-- A command that is a row of the opcode table is run as the row; any other command is `COMMAND` of its words (R209). Either
way it is `COMMAND` of its words. -/
theorem runCommand_cases (c : Command) (s : State) :
    (∃ i, commandOf i = some c ∧ runCommand c s = .run i s ∧ exec i s = .next (s.command (build s.params.hat c))) ∨
    ((∀ i, commandOf i ≠ some c) ∧ runCommand c s = .act (.next (s.command (build s.params.hat c)))) := by
  unfold runCommand
  cases h : rowOf c with
  | some i =>
    have hi := rowOf_eq_some.mp h
    exact .inl ⟨i, hi, rfl, by rw [exec_typed i s (portOf_of_commandOf hi), encode_of_commandOf hi]⟩
  | none => exact .inr ⟨fun i hi => by simp [rowOf_eq_some.mpr hi] at h, rfl⟩

/-- Words that decode at the typed, raw or wire port are run (R73). -/
theorem fetchWords_ok {p : Port} {bs : List Byte} {i : Instr} {s : State} (hp : ∀ c, p ≠ .reply c)
    (h : decode s.params p bs = .ok i) : fetchWords p bs s = .run i s := by
  cases p
  case reply c => exact absurd rfl (hp c)
  case typed =>
    simp only [decode, decodeRequest] at h
    simp only [fetchWords]
    split at h
    · exact nomatch h
    · rename_i c hc
      rw [hc]
      split at h
      · rename_i j hj
        cases h
        simp [runCommand, hj]
      · exact nomatch h
  all_goals simp [fetchWords, h]

end Sys2Proof.Machine
end

