-- ==== Sys2Proof/Tests/Slice0.lean ====
section
/-! SUPPORT. Tests. The expected values are the spec's own: the worked examples of 43_commands.md and the vectors of
95_test_vectors.md, named at each test. Then, for every statement with hypotheses, a concrete case that meets them. -/

namespace Sys2Proof.Tests

open Machine Host

set_option maxRecDepth 8000

/-! ### Decoding: one word per constructor, written out from the spec -/

/-- R240, V45. -/
theorem test_decode_test : decode defaultParams .typed [0x54] = .ok .test := by decide
/-- R241, V46. -/
theorem test_decode_queryState : decode defaultParams .typed [0x51] = .ok .queryState := by decide
/-- R242, V47. -/
theorem test_decode_debug : decode defaultParams .typed [0x44] = .ok .debug := by decide
/-- R243, V47. -/
theorem test_decode_getUsbOutData : decode defaultParams .typed [0x4F] = .ok .getUsbOutData := by decide
/-- R244, V43. -/
theorem test_decode_setAll :
    decode defaultParams .typed [0x53, 0x00, 0x04, 0x80, 0x80, 0x80, 0x80, 0x08] =
      .ok (.setAll 0x0004 128 128 128 128 .center) := by decide
/-- R244 with R238's duration, 500 as in V35. -/
theorem test_decode_setAllD :
    decode defaultParams .typed [0x53, 0x00, 0x04, 0x01, 0x02, 0x03, 0x04, 0x07, 0x01, 0xF4] =
      .ok (.setAllD 0x0004 1 2 3 4 .upLeft 500) := by decide
/-- R245, V32. -/
theorem test_decode_setButtons : decode defaultParams .typed [0x42, 0x80, 0x01] = .ok (.setButtons 0x8001) := by decide
/-- R245, R234: mask before duration. -/
theorem test_decode_setButtonsD :
    decode defaultParams .typed [0x42, 0x80, 0x01, 0x00, 0x64] = .ok (.setButtonsD 0x8001 100) := by decide
/-- R246, R235: `x` before `y`. -/
theorem test_decode_setLeftJoy : decode defaultParams .typed [0x4C, 0x01, 0x80] = .ok (.setLeftJoy 1 128) := by decide
/-- R246, R235. -/
theorem test_decode_setLeftJoyD :
    decode defaultParams .typed [0x4C, 0x01, 0x80, 0x01, 0xF4] = .ok (.setLeftJoyD 1 128 500) := by decide
/-- R247, V37. -/
theorem test_decode_setRightJoy : decode defaultParams .typed [0x52, 0x00, 0xFF] = .ok (.setRightJoy 0 255) := by decide
/-- R247, R235. -/
theorem test_decode_setRightJoyD :
    decode defaultParams .typed [0x52, 0x00, 0xFF, 0x01, 0x00] = .ok (.setRightJoyD 0 255 256) := by decide
/-- R248, V39. -/
theorem test_decode_setHat : decode defaultParams .typed [0x48, 0x08] = .ok (.setHat .center) := by decide
/-- R248, R236. -/
theorem test_decode_setHatD : decode defaultParams .typed [0x48, 0x05, 0x03, 0xE8] = .ok (.setHatD .downLeft 1000) := by decide
/-- R249, V47. -/
theorem test_decode_unsetAll : decode defaultParams .typed [0x55] = .ok .unsetAll := by decide
/-- R250, V42. -/
theorem test_decode_setDownMsec : decode defaultParams .typed [0x4D, 0x00, 0x64] = .ok (.setDownMsec 100) := by decide
/-- R251, R238. -/
theorem test_decode_pressAll :
    decode defaultParams .typed [0x73, 0x12, 0x34, 0xFF, 0x00, 0x00, 0xFF, 0x02] =
      .ok (.pressAll 0x1234 255 0 0 255 .right) := by decide
/-- R251, V44. -/
theorem test_decode_pressAllD :
    decode defaultParams .typed [0x73, 0x12, 0x34, 0xFF, 0x00, 0x00, 0xFF, 0x02, 0x01, 0x00] =
      .ok (.pressAllD 0x1234 255 0 0 255 .right 256) := by decide
/-- R252, V30. -/
theorem test_decode_pressButtons : decode defaultParams .typed [0x62, 0x00, 0x04] = .ok (.pressButtons 0x0004) := by decide
/-- R252, V31. -/
theorem test_decode_pressButtonsD :
    decode defaultParams .typed [0x62, 0x00, 0x04, 0x00, 0x64] = .ok (.pressButtonsD 0x0004 100) := by decide
/-- R253, V34. -/
theorem test_decode_moveLeftJoy : decode defaultParams .typed [0x6C, 0xFF, 0x00] = .ok (.moveLeftJoy 255 0) := by decide
/-- R253, V35. -/
theorem test_decode_moveLeftJoyD :
    decode defaultParams .typed [0x6C, 0xFF, 0x00, 0x01, 0xF4] = .ok (.moveLeftJoyD 255 0 500) := by decide
/-- R254, R235. -/
theorem test_decode_moveRightJoy : decode defaultParams .typed [0x72, 0x80, 0x01] = .ok (.moveRightJoy 128 1) := by decide
/-- R254, V38. -/
theorem test_decode_moveRightJoyD :
    decode defaultParams .typed [0x72, 0x80, 0x01, 0x00, 0xFA] = .ok (.moveRightJoyD 128 1 250) := by decide
/-- R255, R236. -/
theorem test_decode_pressHat : decode defaultParams .typed [0x68, 0x00] = .ok (.pressHat .up) := by decide
/-- R255, V40. -/
theorem test_decode_pressHatD : decode defaultParams .typed [0x68, 0x02, 0x03, 0xE8] = .ok (.pressHatD .right 1000) := by decide
/-- R256, V47. -/
theorem test_decode_clearState : decode defaultParams .typed [0x43] = .ok .clearState := by decide
/-- R257, V41. -/
theorem test_decode_pauseMsec : decode defaultParams .typed [0x50, 0x50, 0x45] = .ok (.pauseMsec 20549) := by decide
/-- R258, V47. -/
theorem test_decode_reportPending : decode defaultParams .typed [0x70] = .ok .reportPending := by decide
/-- R239: any bytes. -/
theorem test_decode_raw : decode defaultParams .raw [0xAA, 0x01] = .ok (.raw [0xAA, 0x01]) := by decide
/-- R90, V31. -/
theorem test_decode_frame :
    decode defaultParams .wire [0x50, 0xA5, 0x62, 0x00, 0x04, 0x00, 0x64, 0xAD, 0x45] =
      .ok (.frame [0x62, 0x00, 0x04, 0x00, 0x64] 0xAD) := by decide
/-- R281, V65. -/
theorem test_decode_replyAlive : decode defaultParams (.reply .alive) [0x41, 0x41] = .ok (.replyAlive [0x41, 0x41]) := by decide
/-- R282, V66. -/
theorem test_decode_replyStatus : decode defaultParams (.reply .status) [0x39] = .ok (.replyStatus 9) := by decide
/-- R283, V5. -/
theorem test_decode_replyState :
    decode defaultParams (.reply .state) [0x51, 0x01, 0x02, 0x03, 0x04, 0x00, 0x00, 0x00, 0x10, 0x00, 0x00, 0x00, 0x20, 0x05] =
      .ok (.replyState 1 2 3 4 16 32 5) := by decide

/-! ### Words that are no instruction -/

/-- R107: an opcode outside the catalog. -/
theorem test_reject_opcode : decode defaultParams .typed [0x41] = .error (.unknownOpcode 0x41) := by decide
/-- R103: a length the opcode's shape does not have. -/
theorem test_reject_length : decode defaultParams .typed [0x42, 0x00] = .error (.operandLength 0x42) := by decide
/-- R101: no direction has code 9. -/
theorem test_reject_hat : decode defaultParams .typed [0x48, 0x09] = .error (.unknownHatCode 0x09) := by decide
/-- V56: GBS §8's frame as printed. -/
theorem test_reject_length_byte : decode defaultParams .wire [0x50, 0xA0, 0x60, 0x45] = .error .framingLen := by decide
/-- V56: end marker and check byte both wrong. -/
theorem test_reject_end_before_check : decode defaultParams .wire [0x50, 0xE1, 0x41, 0x8A, 0x44] = .error .framingEnd := by decide
/-- V55. -/
theorem test_reject_check : decode defaultParams .wire [0x50, 0xE1, 0x43, 0x8B, 0x45] = .error .integrity := by decide
/-- V66: the byte after the digit 9. -/
theorem test_reject_status : decode defaultParams (.reply .status) [0x3A] = .error .statusByte := by decide
/-- V67: the echo is `q`. -/
theorem test_reject_echo :
    decode defaultParams (.reply .state) [0x71, 0x01, 0x02, 0x03, 0x04, 0x00, 0x00, 0x00, 0x10, 0x00, 0x00, 0x00, 0x20, 0x05] =
      .error .stateEcho := by decide
/-- V67: 13 bytes. -/
theorem test_reject_state_length :
    decode defaultParams (.reply .state) [0x51, 0x01, 0x02, 0x03, 0x04, 0x00, 0x00, 0x00, 0x10, 0x00, 0x00, 0x00, 0x20] =
      .error .stateLength := by decide

/-! ### Other values of the OPEN parameters -/

/-- Parameters that are not the default: `S` of shape `BTN`, `D` of shape `MSEC` and class `STATE`, hat codes clockwise from up
with center 0, status codes from 00 (D8's own example). -/
def otherParams : Params where
  shapes := { defaultShapes with setAll := .btn, debug := .msec }
  hat := ⟨#v[1, 2, 3, 4, 5, 6, 7, 8, 0], by decide⟩
  classes := { defaultClasses with debug := .state }
  statusBase := 0

/-- R103, R97: the operands of `S` are read in the shape the parameter gives; such a command has no row. -/
theorem test_decode_other_shape :
    decodeCommand otherParams [0x53, 0x80, 0x01] = .ok ⟨0x53, .btn 0x8001 none⟩ ∧
      decode otherParams .typed [0x53, 0x80, 0x01] = .error (.noRow ⟨0x53, .btn 0x8001 none⟩) ∧
      decodeCommand otherParams [0x44, 0x01, 0x00] = .ok ⟨0x44, .msec 256⟩ ∧
      decodeCommand otherParams [0x44] = .error (.operandLength 0x44) ∧
      decodeCommand otherParams [0x54] = .ok ⟨0x54, .empty⟩ := by decide
/-- R101: the direction's byte is the table's. -/
theorem test_decode_other_hat :
    decode otherParams .typed [0x48, 0x00] = .ok (.setHat .center) ∧
      encode otherParams (.pressHatD .up 1) = [0x68, 0x01, 0x00, 0x01] := by decide
/-- R105, D8: status code 2 is the byte 02. -/
theorem test_decode_other_status :
    decode otherParams (.reply .status) [0x02] = .ok (.replyStatus 2) ∧
      decode otherParams (.reply .status) [0x30] = .error .statusByte := by decide

/-! ### Well-formedness: an ill-formed term for each check -/

theorem test_ill_shape : (Instr.setAll 0 0 0 0 0 .up).wellFormed otherParams = false := by decide
theorem test_ill_command_shape : (Command.mk 0x53 (.btn 0 none)).wellFormed defaultParams = false := by decide
theorem test_ill_command_opcode : (Command.mk 0x41 .empty).wellFormed defaultParams = false := by decide
theorem test_ill_command_axis : (Command.mk 0x4C (.stk 256 0 none)).wellFormed defaultParams = false := by decide

theorem test_ill_axis_high : (Instr.moveLeftJoy 256 0).wellFormed defaultParams = false := by decide
theorem test_ill_axis_low : (Instr.setRightJoyD 0 (-1) 5).wellFormed defaultParams = false := by decide
theorem test_ill_axis_all : (Instr.pressAll 0 0 0 0 256 .up).wellFormed defaultParams = false := by decide
theorem test_ill_axis_allD : (Instr.setAllD 0 0 (-1) 0 0 .up 0).wellFormed defaultParams = false := by decide
theorem test_ill_raw_length : (Instr.raw (List.replicate 16 0)).wellFormed defaultParams = false := by decide
theorem test_ill_frame_length : (Instr.frame (List.replicate 16 0) 0).wellFormed defaultParams = false := by decide
theorem test_ill_frame_check : (Instr.frame [0x41] 0x8A).wellFormed defaultParams = false := by decide
theorem test_ill_alive_length : (Instr.replyAlive (List.replicate 16 0)).wellFormed defaultParams = false := by decide
theorem test_ill_status_code : (Instr.replyStatus 10).wellFormed defaultParams = false := by decide
theorem test_well_longest :
    (Instr.pressAllD 0xFFFF 255 0 255 0 .upLeft 0xFFFF).wellFormed defaultParams = true ∧
      (Instr.raw (List.replicate 15 0)).wellFormed defaultParams = true ∧ (Instr.replyStatus 9).wellFormed defaultParams = true ∧
      (Instr.frame [0x41] 0x8B).wellFormed defaultParams = true := by decide

/-! ### Checksum and codec -/

/-- V11: the standard check value. -/
theorem test_crc_check_value : crc32 [0x31, 0x32, 0x33, 0x34, 0x35, 0x36, 0x37, 0x38, 0x39] = 0xCBF43926 := by decide
/-- V12: the accumulator after the first two shift steps of the byte `54`. -/
theorem test_crc_shift : crcShifts 2 0xFFFFFFAB = 0xA49B3D5A ∧ crcUpdate 0xFFFFFFFF 0x54 = 0x41FB859F := by decide
/-- V14. -/
theorem test_crc_long :
    crc32 [0, 1, 2, 3, 4, 5, 6, 7, 8, 9, 10, 11, 12, 13, 14] = 0xA06C675E ∧
      crc32 (List.replicate 15 0x50) = 0xCC47ABD0 := by decide
/-- V24, V25. -/
theorem test_sent_bytes : sentBytes [0x54] = [0x50, 0xE1, 0x54, 0x60, 0x45, 0x0D, 0x0A] := by decide
/-- V51: garbage, the frame, and what follows stays. -/
theorem test_decode_stream :
    decodeAnswers (byteAnswers [0x00, 0xFF, 0x0D, 0x0A, 0x45, 0x50, 0xE1, 0x54, 0x60, 0x45, 0x0D, 0x0A]) =
      .ok [0x54] (byteAnswers [0x0D, 0x0A]) := by decide
/-- V52, V54: the limit of resynchronisation; a two-bit error of the length byte. -/
theorem test_decode_stream_limits :
    decodeAnswers (byteAnswers [0x50, 0x50, 0xE1, 0x54, 0x60, 0x45]) =
        .error .framingLen (byteAnswers [0xE1, 0x54, 0x60, 0x45]) ∧
      decodeAnswers (byteAnswers [0x50, 0xC3, 0x41, 0x8B, 0x45, 0x0D, 0x0A]) = .error .framingEnd [] := by decide
/-- V57, V58, V59: timeout, fault, waiting. -/
theorem test_decode_stream_answers :
    decodeAnswers [.byte 0x50, .byte 0xE1, .timeout] = .error .readTimeout [] ∧
      decodeAnswers [.byte 0x50, .fault] = .error .transport [] ∧
      decodeAnswers [.byte 0x50, .byte 0xE1, .byte 0x41] = .waiting := by decide
/-- V68, V69. -/
theorem test_counters : ube32 1 2 3 4 = 16909060 ∧ delta 0x80000000 0x7FFFFFFF = 0xFFFFFFFF := by decide
/-- V49. -/
theorem test_clamp : clamp 32767 = 255 ∧ clamp (-32768) = 0 ∧ clamp 128 = 128 := by decide

/-! ### States -/

/-- A Session just opened (R206 step 6). -/
def ready : State := { State.reset with sessState := .cleared }

/-- The longest payload. -/
def longest : List Byte := [0, 1, 2, 3, 4, 5, 6, 7, 8, 9, 10, 11, 12, 13, 14]

/-- Sending the first byte of the request `54`. -/
def sending : State := { ready.started [0x54] with cmdPhase := .none }

/-- Hunting for a reply in attempt `n`, with R209's place `c`. -/
def awaiting (n : BitVec 2) (c : CmdPhase) : State :=
  { ready.started [0x54] with
    attempt := n, cmdPhase := c, txnState := .await, encState := .idle, decState := .hunt }

/-- A `COMMAND` of opcode `op` at line 5 with the reply `q`. -/
def due (op : Byte) (q : List Byte) : State :=
  { ready with
    sessState := .active, curOp := op, cmdPhase := .replyDue, resTag := .success, attempt := 1,
    rxBuf := writeBytes State.reset.rxBuf 0 q, decLen := BitVec.ofNat 4 q.length }

theorem ready_admits : ready.admits := by unfold State.admits; decide

theorem active_admits : { ready with sessState := .active }.admits := by unfold State.admits; decide

theorem sending_inv : sending.Inv := by
  unfold State.Inv State.encoderInv State.decoderInv State.transactionInv State.resultInv; decide

theorem awaiting_inv :
    (awaiting 1 .none).Inv ∧ (awaiting 3 .none).Inv ∧ (awaiting 3 .running).Inv ∧ (awaiting 1 .running).Inv := by
  refine ⟨?_, ?_, ?_, ?_⟩ <;>
    (unfold State.Inv State.encoderInv State.decoderInv State.transactionInv State.resultInv; decide)

theorem due_inv : (due 0x54 [0x41]).Inv := by
  unfold State.Inv State.encoderInv State.decoderInv State.transactionInv State.resultInv; decide

/-- A ready block of other parameters. -/
def otherReady : State := { ready with params := otherParams }

theorem awaiting_hunting : (awaiting 3 .running).hunting ∧ (awaiting 1 .none).hunting := by
  unfold State.hunting; decide

theorem due_ready :
    (due 0x54 [0x41]).replyReady .alive ∧ (due 0x43 [0x30]).replyReady .status ∧
      (due 0x51 [0x51]).replyReady .state := by
  unfold State.replyReady State.noReset
  refine ⟨⟨rfl, nofun, rfl, by decide⟩, ⟨rfl, nofun, rfl, by decide⟩, ⟨rfl, nofun, rfl, by decide⟩⟩

/-! ### One step -/

/-- R259's row of heading 90 and extent 1. -/
theorem right_admitted : HeadingAdmits 90 1 255 128 := by
  have h : (90 : ℝ) * Real.pi / 180 = Real.pi / 2 := by ring
  constructor <;> norm_num [RoundsTo, h]

/-- V34, R253, R209: the clamped payload is latched and the opcode kept. -/
theorem test_exec_moveLeftJoy :
    ∃ t, exec (.moveLeftJoy 300 (-10)) ready = .next t ∧ t.request = [0x6C, 0xFF, 0x00] ∧ t.curOp = 0x6C ∧
      t.attempt = 1 := ⟨_, rfl, by decide⟩
/-- V44. -/
theorem test_exec_pressAllD :
    ∃ t, exec (.pressAllD 0x1234 300 (-10) 0 255 .right 256) ready = .next t ∧
      t.request = [0x73, 0x12, 0x34, 0xFF, 0x00, 0x00, 0xFF, 0x02, 0x01, 0x00] := ⟨_, rfl, by decide⟩
/-- V32: big-endian. -/
theorem test_exec_setButtons :
    ∃ t, exec (.setButtons 0x8001) ready = .next t ∧ t.request = [0x42, 0x80, 0x01] := ⟨_, rfl, by decide⟩
/-- V40. -/
theorem test_exec_pressHatD :
    ∃ t, exec (.pressHatD .right 1000) ready = .next t ∧ t.request = [0x68, 0x02, 0x03, 0xE8] := ⟨_, rfl, by decide⟩
/-- V41. -/
theorem test_exec_pauseMsec :
    ∃ t, exec (.pauseMsec 1000) ready = .next t ∧ t.request = [0x50, 0x03, 0xE8] := ⟨_, rfl, by decide⟩
/-- R191: a 16-byte payload is refused before the Session test. -/
theorem test_exec_raw_too_long :
    ∃ t, exec (.raw (List.replicate 16 0)) State.reset = .next t ∧ t.results = [.refused .payloadTooLong] ∧
      t.resTag = .none := ⟨_, rfl, by decide⟩
/-- V80, R36: the frame of the reply `41` arrives behind what is there, and none of it is taken. -/
theorem test_exec_frame :
    ∃ t, exec (.frame [0x41] 0x8B) { awaiting 1 .none with inputBuffer := [0x00] } = .next t ∧
      t.inputBuffer = [0x00, 0x50, 0xE1, 0x41, 0x8B, 0x45] ∧ t.decState = .hunt ∧ t.results = [] := ⟨_, rfl, by decide⟩
/-- R7, R155: the next step takes the first byte alone. -/
theorem test_step_frame_first_byte :
    ∃ t, step { awaiting 1 .none with inputBuffer := [0x50, 0xE1, 0x41, 0x8B, 0x45] } = .next t ∧
      t.inputBuffer = [0xE1, 0x41, 0x8B, 0x45] ∧ t.decState = .len := ⟨_, rfl, by decide⟩
/-- V80: the step that takes the last byte. -/
theorem test_step_frame_last_byte :
    ∃ t, step { (awaiting 1 .none).takeFrame [0x41] 0x8B with inputBuffer := [0x45] } = .next t ∧
      t.results = [.success [0x41]] ∧ t.attempt = 1 ∧ t.lastErr = .none := ⟨_, rfl, by decide⟩
/-- V81: the first reply of the two, with a wrong check byte, at its last byte. -/
theorem test_step_frame_wrong_check :
    ∃ t, step { (awaiting 1 .none).takeFrame [0x30] 0x20 with inputBuffer := [0x45] } = .next t ∧
      t.lastErr = .integrity ∧ t.attempt = 2 ∧ t.log = [(1, .integrity)] := ⟨_, rfl, by decide⟩
/-- V65: two bytes are not the alive answer. -/
theorem test_exec_replyAlive :
    ∃ t, exec (.replyAlive [0x41, 0x41]) (due 0x54 [0x41, 0x41]) = .next t ∧ t.rplAlive = false ∧
      t.rplKind = .alive := ⟨_, rfl, by decide⟩
/-- V67: flags `FE`, `configured` false. -/
theorem test_exec_replyState :
    ∃ t, exec (.replyState 0xFE 0 0 0 0 0 0) (due 0x51 [0x51]) = .next t ∧
      t.results = [.state 0xFE false 0 0 0 0 0 0] := ⟨_, rfl, by decide⟩
/-- V48, R260: the heading form's payload, for axes R259 admits. -/
theorem test_heading (H : HeadingFunction) (h : H.axes 90 1 = (255, 128)) :
    HeadingAdmits 90 1 255 128 ∧ encode defaultParams (headingInstr H .moveLeft 90 1 none) = [0x6C, 0xFF, 0x80] :=
  ⟨right_admitted, by simp only [headingInstr, h]; decide⟩
/-- R209, R103: a command of a shape that is not the default starts its transaction. -/
theorem test_step_other_shape :
    ∃ t, step { otherReady with schedule := [.command ⟨0x53, .btn 0x8001 (some 100)⟩] } = .next t ∧
      t.request = [0x53, 0x80, 0x01, 0x00, 0x64] ∧ t.curOp = 0x53 ∧ t.attempt = 1 := ⟨_, rfl, by decide⟩
/-- R91, R152: the second byte sent for the request `54` is `E1`. -/
theorem test_step_send :
    ∃ t, step { sending with encState := .len, txAnswers := [.ok] } = .next t ∧ t.txStream = [0xE1] ∧
      t.encState = .payload := ⟨_, rfl, by decide⟩

/-- R372 (b), R200: a `TxPut` in progress, its Session closed under it, is answered `Fault` and the transaction ends. -/
theorem test_step_close_then_fault :
    ∃ t, step { sending with waiting := true, sessState := .closed, schedule := [.answer (.txPut .fault)] } = .next t ∧
      t.txnState = .idle ∧ t.results = [.transportFatal] ∧ t.txStream = [] := ⟨_, rfl, by decide⟩
/-- R320 (b), R196: a `Timeout` is the answer to the `RxTake` in progress, before the byte that arrives after it. -/
theorem test_run_timeout_before_byte :
    ∃ t, run 2 { awaiting 1 .none with
        waiting := true, schedule := [.answer .rxTimeout, .words .wire [0x50], .pass] } = .next t ∧
      t.lastErr = .readTimeout ∧ t.attempt = 2 ∧ t.inputBuffer = [0x50] ∧ t.rxAnswers = [] := ⟨_, rfl, by decide⟩
/-- R206, R71: a `SESSION_OPEN` waits for the transport's answers and empties the buffer of what came before the last. -/
theorem test_run_open_answered :
    ∃ t, run 5 { State.reset with
        schedule := [.sessionOpen [] 9600, .call .test, .answer (.line .ok), .words .wire [0x50],
          .answer (.line .ok), .answer (.line .ok)] } = .next t ∧
      t.sessState = .cleared ∧ t.inputBuffer = [] ∧ t.schedule = [.call .test] := ⟨_, rfl, by decide⟩

/-- `withFetchWord` on the opcode word of `test`: the next step is its meaning. -/
theorem test_withFetchWord :
    decodeTableWord 8 0x54 = some .test ∧
      step (State.reset.withFetchWord 8 0x54) = exec .test State.reset := ⟨by decide, rfl⟩

/-! ### A case for the hypotheses of each statement -/

/-- DecodeEncodeRoundTrip, at the ends of every checked range. -/
theorem witness_wellFormed :
    (Instr.setAllD 0xFFFF 0 255 0 255 .center 0).wellFormed defaultParams = true ∧
      (Instr.raw longest).wellFormed defaultParams = true ∧ (Instr.frame longest 0x5E).wellFormed defaultParams = true ∧
      (Instr.replyAlive []).wellFormed defaultParams = true ∧ (Instr.replyStatus 9).wellFormed defaultParams = true := by decide

/-- EncodeDecodeRoundTrip: a decoded word at each port, and what its last clause assumes. -/
theorem witness_decoded :
    decode defaultParams .typed [0x48, 0x08] = .ok (.setHat .center) ∧ decode defaultParams .wire [0x50, 0xF0, 0x00, 0x45] = .ok (.frame [] 0) ∧
      decode defaultParams .raw [] = .ok (.raw []) ∧ decode defaultParams (.reply .alive) [] = .ok (.replyAlive []) ∧
      decode defaultParams (.reply .status) [0x30] = .ok (.replyStatus 0) ∧ Port.wire ≠ .raw ∧ Port.wire ≠ .reply .alive := by decide

/-- AxesEncodeSaturated, and the command clauses of the two statements before it. -/
theorem witness_typed :
    portOf (.moveLeftJoy 300 (-10)) = .typed ∧ (Instr.moveLeftJoy 300 (-10)).ofShape otherParams = true ∧
      (Command.mk 0x53 (.btn 0xFFFF (some 0))).wellFormed otherParams = true ∧
      (Command.mk 0x73 (.all 0 (-1) 256 0 255 .up none)).ofShape otherParams = true := by decide

/-- ChecksumIsAffine. -/
theorem witness_same_length : [0x41, 0x42].length = [0x01, 0x80].length ∧ longest.length = longest.length := by decide

/-- SingleBitPayloadErrorsAreCaught, at the last bit of the longest payload. -/
theorem witness_flip : longest.length ≤ 15 ∧ 14 < longest.length ∧ 7 < 8 ∧ flipBit longest 14 7 ≠ longest := by decide

/-- LengthBytes: an illegal length byte. -/
theorem witness_illegal_length : lenOfByte 0xE0 = none := by decide

/-- DecodeInvertsEncode and ResynchronisationAndItsLimit. -/
theorem witness_garbage : longest.length ≤ 15 ∧ ∀ b ∈ [0x00, 0xFF, 0x45], b ≠ (0x50 : Byte) := by decide

/-- LengthByteSelfCheck, the ends of both ranges. -/
theorem witness_length_bits : 7 < 8 ∧ 3 < 4 ∧ lenByte 1 ^^^ (1#8 <<< 0) = 0xE0 := by decide

/-- SendSequenceEmitsFrameAndTrailer. -/
theorem witness_send :
    let s := { sending with txAnswers := List.replicate 7 .ok }
    s.txnState = .send ∧ s.encState = .start ∧ s.sessState ≠ .closed ∧ s.schedule = [] ∧ s.cmdPhase ≠ .replyDue ∧
      s.txAnswers = List.replicate (s.reqLen.toNat + 6) .ok ++ [] := by decide

/-- StepwiseDecodeAgreesWithFunction: a hunting block with, in turn, a success, an empty reply, an error, a fault and an
unfinished frame before it. -/
theorem witness_stepwise :
    { awaiting 1 .running with inputBuffer := [0x50, 0xE1, 0x41, 0x8B, 0x45] }.hunting ∧
      decodeAnswers { awaiting 1 .running with inputBuffer := [0x50, 0xE1, 0x41, 0x8B, 0x45] }.rxStream = .ok [0x41] [] ∧
      decodeAnswers { awaiting 1 .running with inputBuffer := [0x50, 0xF0, 0x00, 0x45] }.rxStream = .ok [] [] ∧
      decodeAnswers { awaiting 3 .none with rxAnswers := [.byte 0x50, .timeout] }.rxStream = .error .readTimeout [] ∧
      decodeAnswers { awaiting 3 .none with rxAnswers := [.fault] }.rxStream = .error .transport [] ∧
      decodeAnswers { awaiting 3 .none with inputBuffer := [0x50] }.rxStream = .waiting := by
  unfold State.hunting; decide

/-- ExecuteAgreesWithFunction: each of the four ends of the function. -/
theorem witness_execute :
    ready.admits ∧ longest.length ≤ 15 ∧ ready.schedule = [] ∧
      execAnswers [0x54] (List.replicate 7 .ok) (byteAnswers [0x50, 0xE1, 0x41, 0x8B, 0x45]) = .success [0x41] ∧
      execAnswers [0x54] (List.replicate 21 .ok) [.timeout, .timeout, .timeout] = .exhausted ∧
      execAnswers [0x54] [.fault] [] = .transportFatal ∧ execAnswers [0x54] [] [] = .waiting :=
  ⟨ready_admits, by decide⟩

/-- FrameReceptionAgreesWithBytes: the ends of its range of steps too. -/
theorem witness_reception :
    (awaiting 3 .running).hunting ∧ (awaiting 3 .running).inputBuffer = [] ∧ longest.length ≤ 15 ∧
      0 ≤ longest.length + 4 ∧ longest.length + 4 ≤ longest.length + 4 :=
  ⟨awaiting_hunting.1, by decide⟩

/-- ThreeFailuresExhaust: V82's three replies. -/
theorem witness_three_failures :
    let s := { ready with
      txAnswers := List.replicate 21 .ok,
      rxAnswers := .timeout :: byteAnswers [0x50, 0xA0, 0x60, 0x45, 0x50, 0xF0, 0x00, 0x45] }
    s.admits ∧ s.schedule = [] ∧ s.txAnswers = List.replicate (3 * ([0x43].length + 6)) .ok ++ [] ∧
      failedDecode s.rxStream = some (.readTimeout, byteAnswers [0x50, 0xA0, 0x60, 0x45, 0x50, 0xF0, 0x00, 0x45]) ∧
      failedDecode (byteAnswers [0x50, 0xA0, 0x60, 0x45, 0x50, 0xF0, 0x00, 0x45]) =
        some (.framingLen, byteAnswers [0x60, 0x45, 0x50, 0xF0, 0x00, 0x45]) ∧
      failedDecode (byteAnswers [0x60, 0x45, 0x50, 0xF0, 0x00, 0x45]) = some (.emptyReply, []) := by
  unfold State.admits; decide

/-- StepKeepsTheInvariant and NoFaultUnderTheInvariant: a step of the block inside a transaction. -/
theorem witness_inv_step : sending.Inv ∧ ∃ t, step sending = .next t ∧ t.waiting = true :=
  ⟨sending_inv, _, rfl, by decide⟩

/-- OnlyForeignEventsAreRefused: the three names, and both events of the second. -/
theorem witness_refused :
    step { ready with schedule := [.words .typed [0x41]] } = .refused (.undecodable (.unknownOpcode 0x41)) ∧
      step { ready with schedule := [.words (.reply .alive) [0x41]] } = .refused .notHostOperation ∧
      step { ready with schedule := [.call (.frame [] 0)] } = .refused .notHostOperation ∧
      step { ready with schedule := [.command ⟨0x53, .btn 0 none⟩] } = .refused .notOfShape ∧
      step { otherReady with schedule := [.call .debug] } = .refused .notOfShape := ⟨rfl, rfl, rfl, rfl, rfl⟩

/-- StepRunsTheDecodedInstruction, at each port, for both calls, and for a command with a row and one without. -/
theorem witness_words :
    ready.cmdPhase ≠ .replyDue ∧ decode defaultParams .typed [0x43] = .ok .clearState ∧ decode defaultParams .raw [0x00] = .ok (.raw [0x00]) ∧
      decode defaultParams .wire [0x50, 0xF0, 0x00, 0x45] = .ok (.frame [] 0) ∧ portOf .clearState = .typed ∧
      Instr.clearState.ofShape ready.params = true ∧ portOf (.raw []) = .raw ∧
      (Command.mk 0x43 .empty).ofShape ready.params = true ∧ commandOf .clearState = some ⟨0x43, .empty⟩ ∧
      decodeCommand otherReady.params [0x44, 0x01, 0x00] = .ok ⟨0x44, .msec 256⟩ ∧
      rowOf ⟨0x44, .msec 256⟩ = none := by decide

/-- StepRunsTheDecodedReply, for each class. -/
theorem witness_reply :
    (due 0x54 [0x41]).replyReady .alive ∧ decode defaultParams (.reply .alive) (due 0x54 [0x41]).received = .ok (.replyAlive [0x41]) ∧
      decode defaultParams (.reply .status) (due 0x43 [0x30]).received = .ok (.replyStatus 0) :=
  ⟨due_ready.1, by decide⟩

/-- ExecuteAdmission: each test fails somewhere, at the ends of its range. -/
theorem witness_admission :
    sending.txnState ≠ .idle ∧ State.reset.txnState = .idle ∧ 15 < (List.replicate 16 (0 : Byte)).length ∧
      longest.length ≤ 15 ∧ State.reset.sessState = .closed ∧ { ready with fatal := true }.fatal = true ∧ ready.admits :=
  ⟨by decide, by decide, by decide, by decide, by decide, by decide, ready_admits⟩

/-- BusyOperationsAreRefused. -/
theorem witness_busy :
    (Command.mk 0x54 .empty).ofShape sending.params = true ∧
      { sending with schedule := [.sessionOpen [] 9600] }.txnState ≠ .idle ∧
      { sending with schedule := [.sessionOpen [] 9600] }.cmdPhase ≠ .replyDue := by decide

/-- CommandOnUnusableLineIsFatal: a closed, an opened and a faulted Session. -/
theorem witness_unusable :
    portOf .test = .typed ∧ State.reset.txnState = .idle ∧ State.reset.noReset ∧ State.reset.sessState = .closed ∧
      { ready with sessState := .opened }.noReset ∧ { ready with fatal := true }.noReset ∧
      State.reset.cmdPhase ≠ .replyDue ∧ (Command.mk 0x54 .empty).ofShape State.reset.params = true ∧
      (∀ later, ([] : List HostEvent) ≠ .reset :: later) :=
  ⟨rfl, rfl, nofun, rfl, nofun, nofun, by decide, by decide, nofun⟩

/-- LatchStoresTheRequest and the statements that start a command: both admitted Session states, and an opcode of each shape. -/
theorem witness_admits :
    ready.admits ∧ { ready with sessState := .active }.admits ∧ longest.length ≤ 15 ∧ longest.length ≤ 15 ∧
      ready.cmdPhase ≠ .replyDue ∧ shapeOf ready.params 0x54 = some .empty ∧ shapeOf otherParams 0x53 = some .btn ∧
      shapeOf ready.params 0x72 = some .stk ∧ shapeOf ready.params 0x68 = some .hat ∧
      shapeOf otherParams 0x44 = some .msec ∧ shapeOf ready.params 0x73 = some .all :=
  ⟨ready_admits, active_admits, by decide⟩

/-- ValidFrameReceivedIsSuccess and CorruptOrEmptyFrameFails. -/
theorem witness_awaits :
    (awaiting 1 .none).hunting ∧ (awaiting 3 .running).hunting ∧ (awaiting 1 .none).inputBuffer = [] ∧
      (awaiting 3 .running).inputBuffer = [] ∧ longest ≠ [] ∧ longest.length ≤ 15 ∧
      (awaiting 1 .none).cmdPhase = .none ∧ (awaiting 3 .running).cmdPhase = .running ∧
      (0x20 : Byte) ≠ chk8 [0x30] ∧ (0x00 : Byte) = chk8 [] :=
  ⟨awaiting_hunting.2, awaiting_hunting.1, by decide⟩

/-- FrameArrivesInTheInputBuffer, on either side of its bound. -/
theorem witness_arrival : longest.length ≤ 15 ∧ 15 < (List.replicate 16 (0 : Byte)).length := by decide

/-- AliveReplyIsAnAnswer. -/
theorem witness_alive :
    (due 0x54 [0x41]).replyReady .alive ∧ { due 0x54 [] with resTag := .exhausted }.cmdPhase = .replyDue ∧
      { due 0x54 [] with resTag := .exhausted }.noReset ∧
      replyClass (due 0x54 []).params (due 0x54 []).curOp = .alive :=
  ⟨due_ready.1, rfl, nofun, rfl⟩

/-- StatusReplyDecodes: the ends of the range of codes, and a byte on either side. -/
theorem witness_status :
    (due 0x43 [0x30]).replyReady .status ∧ (due 0x43 [0x30]).received = [BitVec.ofNat 8 ((due 0x43 []).params.statusBase + 0)] ∧
      (due 0x43 [0x39]).received = [BitVec.ofNat 8 ((due 0x43 []).params.statusBase + 9)] ∧ 9 < (10 : Nibble).toNat ∧
      (∀ n, n ≤ 9 → (due 0x43 [0x2F]).received ≠ [BitVec.ofNat 8 ((due 0x43 []).params.statusBase + n)]) ∧
      (∀ n, n ≤ 9 → (due 0x43 [0x3A]).received ≠ [BitVec.ofNat 8 ((due 0x43 []).params.statusBase + n)]) :=
  ⟨due_ready.2.1, by decide, by decide, by decide, by decide, by decide⟩

/-- StateReplyDecodes: V5's reply, one of 13 bytes, and one that echoes `q`. -/
theorem witness_state :
    (due 0x51 [0x51]).replyReady .state ∧
      (due 0x51 [0x51, 1, 2, 3, 4, 0, 0, 0, 0x10, 0, 0, 0, 0x20, 5]).received =
        [0x51, 1, 2, 3, 4, 0, 0, 0, 0x10, 0, 0, 0, 0x20, 5] ∧
      (due 0x51 [0x51, 1, 2, 3, 4, 0, 0, 0, 0x10, 0, 0, 0, 0x20]).received.length ≠ 14 ∧
      (due 0x51 [0x71, 1, 2, 3, 4, 0, 0, 0, 0x10, 0, 0, 0, 0x20, 5]).received.head? ≠ some 0x51 :=
  ⟨due_ready.2.2, by decide⟩

/-- ProtocolViolationConditions: each of the four conditions. -/
theorem witness_violation :
    (due 0x43 [0x30]).replyReady .status ∧ (due 0x43 [0x30, 0x30]).received.length ≠ 1 ∧
      (due 0x43 [0x2F]).received = [0x2F] ∧ (0x2F : Byte).toNat < 0x30 ∧ 0x39 < (0x3A : Byte).toNat ∧
      (due 0x51 []).received.length ≠ 14 ∧
      (due 0x51 [0x71, 1, 2, 3, 4, 0, 0, 0, 0x10, 0, 0, 0, 0x20, 5]).received.length = 14 :=
  ⟨due_ready.2.1, by decide⟩

/-- UnsuccessfulCommandsReturn: the two tags. -/
theorem witness_unsuccessful :
    { due 0x54 [] with resTag := .fatal }.cmdPhase = .replyDue ∧ { due 0x54 [] with resTag := .fatal }.noReset ∧
      { due 0x43 [] with resTag := .exhausted }.noReset ∧ (0x43 : Byte) ≠ 0x54 ∧
      replyClass (due 0x43 []).params (due 0x43 []).curOp ≠ .alive :=
  ⟨rfl, nofun, nofun, by decide, by decide⟩

/-- TimeoutIsAFailedAttempt: an earlier attempt, the third for the host, the third for a `COMMAND`, and a call in progress on a
Session closed under it. -/
theorem witness_timeout :
    { awaiting 1 .none with rxAnswers := [.timeout] }.Inv ∧ { awaiting 3 .none with rxAnswers := [.timeout] }.Inv ∧
      { awaiting 3 .running with rxAnswers := [.timeout] }.Inv ∧ (awaiting 1 .none).attempt ≠ 3 ∧
      (awaiting 1 .none).txnState = .await ∧ (awaiting 1 .none).sessState ≠ .closed ∧
      (awaiting 1 .none).inputBuffer = [] ∧ (awaiting 1 .none).schedule = [] ∧
      { awaiting 1 .none with sessState := .closed, waiting := true, rxAnswers := [.timeout] }.Inv := by
  refine ⟨awaiting_inv.1, awaiting_inv.2.1, awaiting_inv.2.2.1, by decide, by decide, by decide, by decide, by decide, ?_⟩
  unfold State.Inv State.encoderInv State.decoderInv State.transactionInv State.resultInv; decide

/-- TransportFaultIsFatal: while sending and while awaiting, for the host and for a `COMMAND`. -/
theorem witness_fault :
    { sending with txAnswers := [.fault] }.Inv ∧ { awaiting 1 .running with rxAnswers := [.fault] }.Inv ∧
      sending.txnState = .send ∧ sending.sessState ≠ .closed ∧ sending.schedule = [] ∧ sending.cmdPhase = .none ∧
      (awaiting 1 .running).txnState = .await ∧ (awaiting 1 .running).inputBuffer = [] :=
  ⟨sending_inv, awaiting_inv.2.2.2, by decide⟩

/-- SessionCloseCases: a closed and an active Session. -/
theorem witness_close :
    { ready with sessState := .closed, schedule := [.sessionClose] }.sessState = .closed ∧
      { sending with schedule := [.sessionClose] }.sessState ≠ .closed ∧ sending.cmdPhase ≠ .replyDue := by decide

/-- CloseEndsTheTransaction. -/
theorem witness_closed_transaction :
    { awaiting 1 .running with sessState := .closed }.Inv ∧ { awaiting 1 .none with sessState := .closed }.Inv ∧
      (awaiting 1 .running).txnState ≠ .idle ∧ (awaiting 1 .running).waiting = false ∧
      (awaiting 1 .running).schedule = [] := by
  refine ⟨?_, ?_, by decide⟩ <;>
    (unfold State.Inv State.encoderInv State.decoderInv State.transactionInv State.resultInv; decide)

/-- SessionOpenCases: each branch. -/
theorem witness_open :
    let s := { State.reset with schedule := [.sessionOpen [0x2F] 9600] }
    s.cmdPhase ≠ .replyDue ∧ s.txnState = .idle ∧ s.sessState = .closed ∧ { s with sessState := .active }.sessState ≠ .closed ∧
      { s with lineAnswers := [.fault] }.lineAnswers = .fault :: [] ∧
      { s with lineAnswers := [.ok, .ok, .fault] }.lineAnswers = .ok :: .ok :: .fault :: [] ∧
      { s with lineAnswers := [.ok, .ok, .ok] }.lineAnswers = .ok :: .ok :: .ok :: [] := by decide

/-- ResetEventFromAnyState. -/
theorem witness_reset : { sending with schedule := [.reset] }.schedule = .reset :: [] := rfl

/-- HalfDuplex and BytesMoveOneAStep: a step outside `T_SEND`, one outside `T_AWAIT`, one that puts a byte. -/
theorem witness_half_duplex :
    (∃ t, step (awaiting 1 .none) = .next t) ∧ (awaiting 1 .none).txnState ≠ .send ∧ sending.txnState ≠ .await ∧
      ∃ t, step { sending with txAnswers := [.ok] } = .next t ∧ t.txStream = [0x50] :=
  ⟨⟨_, rfl⟩, by decide, by decide, _, rfl, by decide⟩

/-- FatalIsSticky: a faulted Session that a `SESSION_OPEN` clears, and one whose waiting `SESSION_OPEN` a reset overtakes. -/
theorem witness_fatal :
    let s := { State.reset with
      fatal := true, schedule := [.sessionOpen [] 9600], lineAnswers := [.ok, .ok, .ok] }
    let r := { State.reset with
      fatal := true, schedule := [.sessionOpen [] 9600, .sessionClose, .reset] }
    (s.fatal = true ∧ ∃ t, step s = .next t ∧ t.fatal = false) ∧
      r.fatal = true ∧ ∃ t, step r = .next t ∧ t.fatal = false :=
  ⟨⟨rfl, _, rfl, by decide⟩, rfl, _, rfl, by decide⟩

/-- UnansweredCallWaits: an unanswered `TxPut` and an unanswered `RxTake`, before the call is made and in progress, each with a
Session that is open and one that was closed during the call; and each schedule of its clauses, on a state it speaks of. -/
theorem witness_unanswered :
    sending.Inv ∧ sending.schedule = [] ∧ sending.sessState ≠ .closed ∧ sending.txnState = .send ∧
      sending.txAnswers = [] ∧ sending.waiting = false ∧ sending.cmdPhase ≠ .replyDue ∧
      (awaiting 1 .none).Inv ∧ (awaiting 1 .none).txnState = .await ∧ (awaiting 1 .none).rxStream = [] ∧
      { sending with waiting := true, schedule := [.answer (.txPut .ok)] }.Inv ∧
      { sending with
        waiting := true, sessState := .closed, schedule := [.sessionClose, .answer (.txPut .fault)] }.Inv ∧
      { awaiting 3 .running with
        waiting := true, inputBuffer := [0x50], schedule := [.answer .rxFault, .words .wire [0x50], .pass] }.Inv ∧
      { awaiting 1 .none with
        waiting := true, sessState := .closed, schedule := [.sessionClose, .words .wire [0x50]] }.Inv := by
  refine ⟨sending_inv, by decide, by decide, by decide, by decide, by decide, by decide, awaiting_inv.1, by decide,
    by decide, ?_, ?_, ?_, ?_⟩ <;>
    (unfold State.Inv State.encoderInv State.decoderInv State.transactionInv State.resultInv; decide)

/-- EmptyLegacyResultMeansExhausted: a success and an exhausted result. -/
theorem witness_legacy :
    (due 0x54 [0x41]).Inv ∧ (due 0x54 [0x41]).legacy = .payload [0x41] ∧
      { due 0x54 [0x41] with resTag := .exhausted }.legacy = .payload [] :=
  ⟨due_inv, by decide⟩

/-- CounterDelta and CounterRate, on either side of each bound. -/
theorem witness_counters :
    (5 : Word).toNat ≤ (5 : Word).toNat ∧ (0 : Word).toNat < (1 : Word).toNat ∧ (0 : Rat) < 3 ∧ (0 : Rat) ≤ 0 := by
  decide

/-- AxisClamp, at the ends of the range. -/
theorem witness_axis : (-1 : Int) < 0 ∧ (255 : Int) < 256 ∧ (0 : Int) ≤ 0 ∧ (255 : Int) ≤ 255 := by decide

/-- HeadingPseudoInstructions: there is a configuration function, one that rounds to nearest. -/
theorem witness_heading_function : Nonempty HeadingFunction := by
  have near (t : ℝ) : |(round t : ℝ) - t| ≤ 1 / 2 + (1 / 2) ^ 40 := by
    rw [abs_sub_comm]; exact (abs_sub_round t).trans (by norm_num)
  exact ⟨⟨fun h e => (128 + round (Real.sin (h * Real.pi / 180) * e * 127),
    128 - round (Real.cos (h * Real.pi / 180) * e * 127)), fun h e => by
      constructor <;> simpa [RoundsTo] using near _⟩⟩

/-- HeadingAlwaysHasAResult's second clause and HeadingPseudoInstructions. -/
theorem witness_heading (H : HeadingFunction) :
    HeadingAdmits 90 1 255 128 ∧ ready.cmdPhase ≠ .replyDue ∧ shapeOf ready.params 0x6C = some .stk ∧
      shapeOf ready.params 0x72 = some .stk ∧ shapeOf ready.params 0x4C = some .stk ∧
      shapeOf ready.params 0x52 = some .stk ∧
      { ready with schedule := [.call (headingInstr H .setLeft 0 0 none)] }.schedule =
        .call (headingInstr H .setLeft 0 0 none) :: [] :=
  ⟨right_admitted, by decide, by decide, by decide, by decide, by decide, rfl⟩

end Sys2Proof.Tests
end

section
/-! PROOF. The block's streams (R35, R36, R60): what each operation leaves of them, what a step can do to them, and from that
`BytesMoveOneAStep`. -/

namespace Sys2Proof.Machine

/-- The streams and the answers to come, the part of the state that a byte can move in (R35, R36, R60). -/
structure Streams where
  tx : List Byte
  input : List Byte
  rx : List RxAnswer
  put : List LineAnswer
  line : List LineAnswer

/-- The streams of a state. -/
def State.streams (s : State) : Streams where
  tx := s.txStream
  input := s.inputBuffer
  rx := s.rxAnswers
  put := s.txAnswers
  line := s.lineAnswers

/-! ### Operations that move no byte -/

@[simp] theorem State.give_streams (s : State) (r : HostResult) : (s.give r).streams = s.streams := rfl
@[simp] theorem State.violate_streams (s : State) : s.violate.streams = s.streams := rfl
@[simp] theorem State.hardReset_streams (s : State) : s.hardReset.streams = s.streams := rfl
@[simp] theorem State.beginFrame_streams (s : State) (n : Nibble) : (s.beginFrame n).streams = s.streams := rfl
@[simp] theorem State.storeByte_streams (s : State) (b : Byte) : (s.storeByte b).streams = s.streams := rfl
@[simp] theorem State.takeFrame_streams (s : State) (p : List Byte) (c : Byte) :
    (s.takeFrame p c).streams = s.streams := rfl

@[simp] theorem State.finish_streams (s : State) : s.finish.streams = s.streams := by
  rw [s.finish_frame]; rfl

@[simp] theorem State.succeed_streams (s : State) : s.succeed.streams = s.streams :=
  State.finish_streams _

@[simp] theorem State.transportError_streams (s : State) : s.transportError.streams = s.streams :=
  State.finish_streams _

@[simp] theorem State.failAttempt_streams (s : State) (c : Cause) : (s.failAttempt c).streams = s.streams := by
  rcases s.failAttempt_cases c with ⟨-, h⟩ | ⟨-, h⟩
  · rw [h, State.finish_streams]; rfl
  · rw [h]; rfl

@[simp] theorem State.endFrame_streams (s : State) : s.endFrame.streams = s.streams := by
  rcases s.endFrame_cases with ⟨-, h⟩ | ⟨-, -, h⟩ | ⟨-, -, h⟩ <;> simp [h]

@[simp] theorem State.encAdvance_streams (s : State) (b : Byte) : (s.encAdvance b).streams = s.streams := by
  unfold State.encAdvance
  cases s.encState <;> rfl

@[simp] theorem State.sessionClose_streams (s : State) : s.sessionClose.streams = s.streams := by
  unfold State.sessionClose
  split <;> rfl

@[simp] theorem State.runExecute_streams (s : State) (p : List Byte) : (s.runExecute p).streams = s.streams := by
  rcases s.runExecute_cases p with ⟨-, h⟩ | ⟨-, h⟩
  · rw [h]; rfl
  · rw [h, State.finish_streams]; rfl

@[simp] theorem State.execute_streams (s : State) (p : List Byte) : (s.execute p).streams = s.streams := by
  rcases s.execute_cases p with ⟨-, h⟩ | ⟨-, -, h⟩ | ⟨-, -, h⟩
  · rw [h, State.give_streams]
  · rw [h, State.give_streams]
  · rw [h, State.runExecute_streams]; rfl

@[simp] theorem State.command_streams (s : State) (p : List Byte) : (s.command p).streams = s.streams := by
  rcases s.command_cases p with ⟨-, h⟩ | ⟨-, h⟩
  · rw [h, State.give_streams]
  · rw [h, State.runExecute_streams]; rfl

/-- The decoder's reaction to a byte it has taken moves no other (R155 to R159). -/
theorem State.decByte_streams {s t : State} {b : Byte} (h : s.decByte b = .next t) : t.streams = s.streams := by
  unfold State.decByte at h
  cases hd : s.decState <;> simp only [hd] at h
  case idle => cases h; rfl
  case hunt => cases h; split <;> rfl
  case len => split at h <;> cases h <;> simp
  case payload => split at h <;> cases h; simp
  case chk => cases h; rfl
  case endMark => cases h; split <;> simp

/-- Nor does its reaction to any other answer (R160 to R162). -/
theorem State.awaitAnswer_streams {s t : State} {a : RxAnswer} (h : s.awaitAnswer a = .next t) :
    t.streams = s.streams := by
  cases a with
  | byte b => exact State.decByte_streams h
  | timeout => cases h; simp
  | fault => cases h; simp

/-! ### What a step can do to the streams -/

/-- What one step of the block on its own does to the streams `a`, with `txn_state` `x`: nothing; one byte of the input buffer
or, that being empty, one answer to `RxTake` is taken (R61); one answer to `TxPut` is, and on `Ok` a byte is put (R62). -/
inductive BlockMove (x : TxnState) (a : Streams) : Streams → Prop where
  | still : BlockMove x a a
  | takeByte (b : Byte) (ib : List Byte) (hx : x = .await) (hi : a.input = b :: ib) :
      BlockMove x a { a with input := ib }
  | takeAnswer (r : RxAnswer) (ra : List RxAnswer) (hx : x = .await) (hi : a.input = []) (hr : a.rx = r :: ra) :
      BlockMove x a { a with rx := ra }
  | putByte (b : Byte) (pa : List LineAnswer) (hx : x = .send) (hp : a.put = .ok :: pa) :
      BlockMove x a { a with put := pa, tx := a.tx ++ [b] }
  | putFault (pa : List LineAnswer) (hx : x = .send) (hp : a.put = .fault :: pa) :
      BlockMove x a { a with put := pa }

/-- What a step does to the streams `a`, with the events `es` to come and `txn_state` `x`: a move of the block; bytes arrive
(R69); an answer is kept (log 2) or puts the byte offered at once (R320 (b)); a `SESSION_OPEN` completes (R206, R71). -/
inductive StreamMove (es : List HostEvent) (x : TxnState) (a : Streams) : Streams → Prop where
  | block {m : Streams} (h : BlockMove x a m) : StreamMove es x a m
  | arrive (bs : List Byte) : StreamMove es x a { a with input := a.input ++ bs }
  | keep (r : TransportAnswer) :
      StreamMove es x a { a with put := a.put ++ r.toTxPut, rx := a.rx ++ r.toRxTake, line := a.line ++ r.toLine }
  | putNow (b : Byte) (rest : List HostEvent) (hx : x = .send) (he : es = .answer (.txPut .ok) :: rest) :
      StreamMove es x a { a with tx := a.tx ++ [b] }
  | opened (d : List Byte) (baud : Nat) (rest : List HostEvent) (ib : List Byte) (n : Nat)
      (he : es = .sessionOpen d baud :: rest) (hib : ib = a.input ∨ ib = []) (hn : n = 1 ∨ n = 3) :
      StreamMove es x a { a with input := ib, line := a.line.drop n }

/-- A step whose next state has the same streams moves nothing. -/
theorem StreamMove.of_eq {es : List HostEvent} {x : TxnState} {a m : Streams} (h : m = a) : StreamMove es x a m :=
  h ▸ .block .still

theorem State.sendStep_move {s t : State} (hx : s.txnState = .send) (h : s.sendStep = .next t) :
    BlockMove s.txnState s.streams t.streams := by
  rcases s.sendStep_cases with ⟨-, hs⟩ | ⟨-, -, hs⟩ | ⟨b, -, ⟨-, hs⟩ | ⟨rest, ha, hs⟩ | ⟨rest, ha, hs⟩⟩ <;>
    rw [hs] at h <;> cases h
  · exact .still
  · exact .still
  · rw [State.transportError_streams]; exact .putFault rest hx ha
  · rw [State.encAdvance_streams]; exact .putByte b rest hx ha

theorem State.rxTake_move {s t : State} {r : RxAnswer} (hx : s.txnState = .await) (h : s.rxTake = some (r, t)) :
    BlockMove s.txnState s.streams t.streams := by
  unfold State.rxTake at h
  split at h
  next b ib hi => cases h; exact .takeByte b ib hx hi
  next hi =>
    split at h
    next ra hr => cases h; exact .takeAnswer _ ra hx hi hr
    next => cases h

theorem State.awaitStep_move {s t : State} (hx : s.txnState = .await) (h : s.awaitStep = .next t) :
    BlockMove s.txnState s.streams t.streams := by
  rcases s.awaitStep_cases with ⟨-, hs⟩ | ⟨-, -, hs⟩ | ⟨-, r, ib, ra, -, ht, hs⟩ <;> rw [hs] at h
  · cases h; exact .still
  · cases h; exact .still
  · rw [State.awaitAnswer_streams h]; exact State.rxTake_move hx ht

theorem State.blockStep_move {s t : State} (h : s.blockStep = .next t) :
    BlockMove s.txnState s.streams t.streams := by
  rcases s.blockStep_cases with ⟨-, hs⟩ | ⟨-, -, -, hs⟩ | ⟨hx, -, hs⟩ | ⟨hx, -, hs⟩ <;> rw [hs] at h
  · cases h; exact .still
  · cases h; rw [State.transportError_streams]; exact .still
  · exact State.sendStep_move hx h
  · exact State.awaitStep_move hx h

/-- A meaning moves nothing, but for the frame on the wire, whose bytes arrive (R69). -/
theorem exec_move {es : List HostEvent} {i : Instr} {s t : State} (h : exec i s = .next t) :
    StreamMove es s.txnState s.streams t.streams := by
  by_cases hp : portOf i = .typed
  · rw [exec_typed i s hp] at h
    cases h; exact .of_eq (State.command_streams ..)
  cases i
  case raw => cases h; exact .of_eq (State.execute_streams ..)
  case frame =>
    simp only [exec, execFrame] at h
    split at h <;> cases h
    · exact .of_eq rfl
    · exact .arrive _
  case replyStatus =>
    simp only [exec, execReplyStatus] at h
    split at h <;> cases h <;> exact .of_eq rfl
  case replyAlive => cases h; exact .of_eq rfl
  case replyState => cases h; exact .of_eq rfl
  all_goals exact absurd rfl hp

/-- `SESSION_OPEN` once it has its answers (R206): refused, or its answers are used and the input buffer emptied or left. -/
theorem State.sessionOpen_move {es rest : List HostEvent} {s t : State} {d : List Byte} {baud : Nat}
    (he : es = .sessionOpen d baud :: rest) (h : s.sessionOpen d baud = some t) :
    StreamMove es s.txnState s.streams t.streams := by
  unfold State.sessionOpen State.openLine at h
  split at h
  · cases h; exact .of_eq rfl
  split at h
  · cases h; exact .of_eq rfl
  have used (n : Nat) (hn : n = 1 ∨ n = 3) (ib : List Byte) (hib : ib = s.streams.input ∨ ib = [])
      {m : Streams} (hm : m = { s.streams with input := ib, line := s.streams.line.drop n }) :
      StreamMove es s.txnState s.streams m :=
    hm ▸ .opened d baud rest ib n he hib hn
  split at h <;> cases h
  case h_2 hl => exact used 1 (.inl rfl) _ (.inl rfl) (by simp [State.streams, State.openFailed, hl])
  case h_3 r1 r2 later hl =>
    unfold State.openAnswered
    cases r1
    · refine used 3 (.inr rfl) [] (.inr rfl) ?_
      cases r2 <;> simp [State.streams, State.openFailed, State.resetInput, hl]
    · refine used 3 (.inr rfl) _ (.inl rfl) ?_
      simp [State.streams, State.openFailed, State.resetInput, hl]

theorem openWaits_move {es : List HostEvent} (d : List Byte) (baud : Nat) (rest : List HostEvent) (s : State) :
    StreamMove es s.txnState s.streams (openWaits d baud rest s).streams := by
  rcases openWaits_cases d baud rest s with ⟨later, -, h⟩ | h | ⟨later, h⟩ | ⟨later, bs, h⟩ | ⟨later, a, h⟩ <;> rw [h]
  · exact .of_eq rfl
  · exact .of_eq rfl
  · exact .of_eq rfl
  · exact .arrive bs
  · exact .keep a

/-- An answer of the transport (R320 (b)): kept, or taken by the call in progress, which consumes nothing given before. -/
theorem State.answer_move {es rest : List HostEvent} {s t : State} {a : TransportAnswer}
    (he : es = .answer a :: rest) (h : s.answer a = .next t) : StreamMove es s.txnState s.streams t.streams := by
  rcases s.answer_cases a with ⟨-, -, hs⟩ | ⟨hput, r, rfl, hs⟩ | ⟨-, -, hs⟩ | ⟨-, -, hs⟩ <;> rw [hs] at h
  · cases h; exact .keep a
  · obtain ⟨⟨-, hx⟩, hidle⟩ : (s.waiting = true ∧ s.txnState = .send) ∧ s.encState ≠ .idle := by
      simpa [State.putting] using hput
    rcases State.sendStep_cases { s with txAnswers := r :: s.txAnswers } with
      ⟨hi, -⟩ | ⟨-, -, hs⟩ | ⟨b, -, ⟨ha, -⟩ | ⟨later, ha, hs⟩ | ⟨later, ha, hs⟩⟩
    · exact absurd hi hidle
    · rw [hs] at h; cases h
    · exact nomatch ha
    · cases ha; rw [hs] at h; cases h
      exact .of_eq (State.transportError_streams _)
    · cases ha; rw [hs] at h; cases h
      rw [State.encAdvance_streams]
      exact .putNow b rest hx he
  · cases h; exact .of_eq (State.failAttempt_streams ..)
  · cases h; exact .of_eq (State.transportError_streams _)

/-- What a step does once it has fetched, said of the fetch. -/
def Fetched.outcome : Fetched → Host.Outcome State Fault Refusal
  | .run i s => exec i s
  | .act o => o

theorem step_eq_outcome (s : State) : step s = (fetch s).outcome := by
  unfold step Fetched.outcome
  cases fetch s <;> rfl

theorem fetchReply_move {es : List HostEvent} {s t : State} (h : (fetchReply s).outcome = .next t) :
    StreamMove es s.txnState s.streams t.streams := by
  unfold fetchReply at h
  split at h
  · split at h
    · exact exec_move h
    · cases h; exact .of_eq rfl
  · split at h
    · exact exec_move (i := .replyAlive []) h
    · cases h; exact .of_eq rfl
  all_goals cases h; exact .of_eq rfl

theorem runCommand_move {es : List HostEvent} {c : Command} {s t : State} (h : (runCommand c s).outcome = .next t) :
    StreamMove es s.txnState s.streams t.streams := by
  rcases runCommand_cases c s with ⟨i, -, hr, -⟩ | ⟨-, hr⟩ <;> rw [hr] at h
  · exact exec_move h
  · cases h; exact .of_eq (State.command_streams ..)

theorem fetchCommand_move {es : List HostEvent} {c : Command} {s t : State}
    (h : (fetchCommand c s).outcome = .next t) : StreamMove es s.txnState s.streams t.streams := by
  unfold fetchCommand at h
  split at h
  · exact runCommand_move h
  · cases h

theorem fetchCall_move {es : List HostEvent} {i : Instr} {s t : State} (h : (fetchCall i s).outcome = .next t) :
    StreamMove es s.txnState s.streams t.streams := by
  unfold fetchCall at h
  split at h
  · split at h
    · exact exec_move h
    · cases h
  · exact exec_move h
  all_goals cases h

theorem fetchWords_move {es : List HostEvent} {p : Port} {bs : List Byte} {s t : State}
    (h : (fetchWords p bs s).outcome = .next t) : StreamMove es s.txnState s.streams t.streams := by
  cases p <;> simp only [fetchWords] at h
  case typed =>
    split at h
    · exact runCommand_move h
    · cases h
  case raw => exact exec_move (i := .raw bs) h
  case wire =>
    split at h
    · exact exec_move h
    · cases h; exact .arrive bs
  case reply => cases h

theorem fetchEvent_move {e : HostEvent} {rest : List HostEvent} {s t : State}
    (h : (fetchEvent e rest s).outcome = .next t) :
    StreamMove (e :: rest) s.txnState s.streams t.streams := by
  cases e with
  | pass => exact .block (State.blockStep_move (s := { s with schedule := rest }) h)
  | reset => cases h; exact .of_eq rfl
  | sessionOpen d baud =>
    simp only [fetchEvent] at h
    split at h <;> cases h
    · exact State.sessionOpen_move (s := { s with schedule := rest }) rfl ‹_›
    · exact openWaits_move d baud rest s
  | sessionClose => cases h; exact .of_eq (State.sessionClose_streams _)
  | call i => exact fetchCall_move (s := { s with schedule := rest }) h
  | command c => exact fetchCommand_move (s := { s with schedule := rest }) h
  | words p bs => exact fetchWords_move (s := { s with schedule := rest }) h
  | answer a => exact State.answer_move (s := { s with schedule := rest }) rfl h

/-- What a step does to the streams. -/
theorem step_move {s t : State} (h : step s = .next t) :
    StreamMove s.schedule s.txnState s.streams t.streams := by
  rw [step_eq_outcome] at h
  rcases fetch_cases s with ⟨rest, -, hf⟩ | ⟨-, -, hf⟩ | ⟨-, -, hf⟩ | ⟨-, e, rest, -, hs, hf⟩ <;> rw [hf] at h
  · cases h; exact .of_eq rfl
  · exact fetchReply_move h
  · exact .block (State.blockStep_move h)
  · rw [hs]; exact fetchEvent_move h

/-! ### At most one byte a step -/

/-- The TX stream only grows, by at most one byte, and that byte used one `Ok` (R62, R68). -/
theorem StreamMove.tx_grows {es : List HostEvent} {x : TxnState} {a m : Streams} (h : StreamMove es x a m) :
    m.tx = a.tx ∨
      ∃ b, m.tx = a.tx ++ [b] ∧
        (a.put = .ok :: m.put ∨ (m.put = a.put ∧ ∃ rest, es = .answer (.txPut .ok) :: rest)) := by
  cases h with
  | block h =>
    cases h with
    | putByte b pa _ hp => exact .inr ⟨b, rfl, .inl hp⟩
    | still | takeByte | takeAnswer | putFault => exact .inl rfl
  | putNow b rest _ he => exact .inr ⟨b, rfl, .inr ⟨rfl, rest, he⟩⟩
  | arrive | keep | opened => exact .inl rfl

/-- A step takes nothing given before, and then at most one answer comes in; or it takes one byte, one answer to `RxTake`, one
answer to `TxPut`, or the answers of a `SESSION_OPEN` (R7, R61, R62). -/
theorem StreamMove.takes_one {es : List HostEvent} {x : TxnState} {a m : Streams} (h : StreamMove es x a m) :
    (a.input <+: m.input ∧ a.rx <+: m.rx ∧ a.put <+: m.put ∧ a.line <+: m.line ∧
      m.rx.length + m.put.length + m.line.length ≤ a.rx.length + a.put.length + a.line.length + 1) ∨
    ((∃ b, a.input = b :: m.input) ∧ m.rx = a.rx ∧ m.put = a.put ∧ m.line = a.line) ∨
    (a.input = [] ∧ m.input = [] ∧ (∃ r, a.rx = r :: m.rx) ∧ m.put = a.put ∧ m.line = a.line) ∨
    (m.input = a.input ∧ m.rx = a.rx ∧ (∃ r, a.put = r :: m.put) ∧ m.line = a.line) ∨
    ((∃ d b rest, es = .sessionOpen d b :: rest) ∧ m.rx = a.rx ∧ m.put = a.put ∧
      (m.line = a.line.drop 1 ∨ m.line = a.line.drop 3)) := by
  cases h with
  | block h =>
    cases h with
    | still => exact .inl ⟨List.prefix_rfl, List.prefix_rfl, List.prefix_rfl, List.prefix_rfl, Nat.le_succ _⟩
    | takeByte b ib _ hi => exact .inr (.inl ⟨⟨b, hi⟩, rfl, rfl, rfl⟩)
    | takeAnswer r ra _ hi hr => exact .inr (.inr (.inl ⟨hi, hi, ⟨r, hr⟩, rfl, rfl⟩))
    | putByte b pa _ hp => exact .inr (.inr (.inr (.inl ⟨rfl, rfl, ⟨_, hp⟩, rfl⟩)))
    | putFault pa _ hp => exact .inr (.inr (.inr (.inl ⟨rfl, rfl, ⟨_, hp⟩, rfl⟩)))
  | arrive bs => exact .inl ⟨List.prefix_append _ _, List.prefix_rfl, List.prefix_rfl, List.prefix_rfl, Nat.le_succ _⟩
  | keep r =>
    refine .inl ⟨List.prefix_rfl, List.prefix_append _ _, List.prefix_append _ _, List.prefix_append _ _, ?_⟩
    have := r.one_answer
    simp only [List.length_append]
    omega
  | putNow b rest => exact .inl ⟨List.prefix_rfl, List.prefix_rfl, List.prefix_rfl, List.prefix_rfl, Nat.le_succ _⟩
  | opened d b rest ib n he _ hn =>
    refine .inr (.inr (.inr (.inr ⟨⟨d, b, rest, he⟩, rfl, rfl, ?_⟩)))
    rcases hn with rfl | rfl
    · exact .inl rfl
    · exact .inr rfl

/-- Settles O50: every step is one of the moves of `StreamMove`, each of which takes at most one byte. -/
theorem bytesMoveOneAStep : Obligations.BytesMoveOneAStep :=
  fun _ _ h => ⟨(step_move h).tx_grows, (step_move h).takes_one⟩

end Sys2Proof.Machine
end

section
/-! PROOF. The reception of a frame (R90, R154 to R160): its bytes arrive in the input buffer, the decoder takes them one a
step, and the checks at its end decide between success and a failed attempt. -/

namespace Sys2Proof.Machine

/-! ### Arrival -/

/-- A frame of at most 15 payload bytes arrives (R69). -/
theorem exec_frame {p : List Byte} (c : Byte) (s : State) (h : p.length ≤ 15) :
    exec (.frame p c) s = .next (s.arrive (frameBytes p c)) :=
  if_neg (Nat.not_lt.mpr h)

/-- A longer payload has no frame (R151). -/
theorem exec_frame_tooLong {p : List Byte} (c : Byte) (s : State) (h : 15 < p.length) :
    exec (.frame p c) s = .next (s.give (.refused .payloadTooLong)) :=
  if_pos h

/-- Settles O37, by the two sides of the bound on the payload. -/
theorem frameArrivesInTheInputBuffer : Obligations.FrameArrivesInTheInputBuffer :=
  fun s _ c => ⟨exec_frame c s, exec_frame_tooLong c s⟩

/-! ### One byte a step -/

/-- From `s` to `t` the block takes the bytes `bs` from the front of its input buffer, one a step. -/
inductive Takes : State → List Byte → State → Prop where
  | nil (s : State) : Takes s [] s
  | cons {s v t : State} {b : Byte} {bs : List Byte} (hstep : step s = .next v)
      (hbuf : s.inputBuffer = b :: v.inputBuffer) (h : Takes v bs t) : Takes s (b :: bs) t

theorem Takes.append {s t u : State} {bs cs : List Byte} (h : Takes s bs t) (h' : Takes t cs u) :
    Takes s (bs ++ cs) u := by
  induction h with
  | nil => exact h'
  | cons hstep hbuf _ ih => exact .cons hstep hbuf (ih h')

theorem run_succ {s v : State} (h : step s = .next v) (n : Nat) : run (n + 1) s = run n v := by
  rw [run, h]

theorem Takes.run_eq {s t : State} {bs : List Byte} (h : Takes s bs t) : run bs.length s = .next t := by
  induction h with
  | nil => rfl
  | cons hstep _ _ ih => rw [List.length_cons, run_succ hstep, ih]

/-- After `k` of the steps exactly `k` bytes have been taken. -/
theorem Takes.run_drop {s t : State} {bs : List Byte} (h : Takes s bs t) {k : Nat} (hk : k ≤ bs.length) :
    ∃ v, run k s = .next v ∧ v.inputBuffer = s.inputBuffer.drop k := by
  induction h generalizing k with
  | nil s => exact ⟨s, by rw [Nat.le_zero.mp hk]; rfl, by rw [Nat.le_zero.mp hk]; rfl⟩
  | cons hstep hbuf _ ih =>
    cases k with
    | zero => exact ⟨_, rfl, rfl⟩
    | succ k =>
      obtain ⟨v, hv, hd⟩ := ih (Nat.le_of_succ_le_succ hk)
      exact ⟨v, by rw [run_succ hstep, hv], by rw [hd, hbuf]; rfl⟩

/-- The block awaits on an open Session with nothing scheduled and no reply due, so that each step of it is an `RxTake`. -/
def State.awaiting (s : State) : Prop :=
  s.txnState = .await ∧ s.sessState ≠ .closed ∧ s.schedule = [] ∧ s.cmdPhase ≠ .replyDue

theorem State.hunting.awaiting {s : State} (h : s.hunting) : s.awaiting := by
  obtain ⟨hx, -, hsess, hsched, hcmd⟩ := h
  exact ⟨hx, hsess, hsched, hcmd⟩

theorem State.hunting.decState {s : State} (h : s.hunting) : s.decState = .hunt := by
  obtain ⟨-, hd, -⟩ := h
  exact hd

/-- A step with a byte in the input buffer gives that byte to the decoder (R61, R154). -/
theorem step_takes_byte {s : State} {b : Byte} {rest : List Byte} (h : s.awaiting) (hd : s.decState ≠ .idle)
    (hi : s.inputBuffer = b :: rest) : step s = { s with inputBuffer := rest, waiting := false }.decByte b := by
  obtain ⟨hx, hsess, hsched, hcmd⟩ := h
  rw [step_block hcmd hsched]
  simp [State.blockStep, hx, hsess, State.awaitStep, hd, State.rxTake, hi, State.awaitAnswer]

/-- One byte taken, where the decoder's reaction to it leaves the input buffer alone. -/
theorem Takes.one {s t : State} {b : Byte} {rest : List Byte} (h : s.awaiting) (hd : s.decState ≠ .idle)
    (hi : s.inputBuffer = b :: rest)
    (ht : { s with inputBuffer := rest, waiting := false }.decByte b = .next t) : Takes s [b] t := by
  have hbuf : t.inputBuffer = rest := congrArg Streams.input (State.decByte_streams ht)
  exact .cons ((step_takes_byte h hd hi).trans ht) (hi.trans (by rw [hbuf])) (.nil t)

/-! ### The decoder inside a frame -/

/-- The state of the decoder inside a frame of length `n`, the payload bytes `p` taken and `ib` left in the input buffer
(R156, R157). -/
def State.inFrame (s : State) (n : Nat) (p ib : List Byte) : State :=
  { s with
    decLen := BitVec.ofNat 4 n, decIdx := BitVec.ofNat 4 p.length, rxBuf := writeBytes s.rxBuf 0 p,
    crcAcc := crcFold crcInitial p, decState := if p.length = n then .chk else .payload, waiting := false,
    inputBuffer := ib }

theorem State.awaiting.inFrame {s : State} (h : s.awaiting) (n : Nat) (p ib : List Byte) :
    (s.inFrame n p ib).awaiting :=
  h

theorem State.inFrame_payload (s : State) {n : Nat} {p : List Byte} (ib : List Byte) (h : p.length < n) :
    (s.inFrame n p ib).decState = .payload :=
  if_neg (Nat.ne_of_lt h)

theorem State.inFrame_chk (s : State) {n : Nat} {p : List Byte} (ib : List Byte) (h : p.length = n) :
    (s.inFrame n p ib).decState = .chk :=
  if_pos h

theorem ofNat4_succ (k : Nat) : BitVec.ofNat 4 k + 1 = BitVec.ofNat 4 (k + 1) := by
  apply BitVec.eq_of_toNat_eq
  simp

theorem ofNat4_inj {k n : Nat} (hk : k ≤ 15) (hn : n ≤ 15) : BitVec.ofNat 4 k = BitVec.ofNat 4 n ↔ k = n := by
  rw [← BitVec.toNat_inj, ofNat4_toNat hk, ofNat4_toNat hn]

/-- The length byte is accepted (R156): the decoder stands inside the frame with no payload byte taken. -/
theorem State.beginFrame_eq_inFrame {s : State} {n : Nat} (h : n ≤ 15) (hw : s.waiting = false) :
    s.beginFrame (BitVec.ofNat 4 n) = s.inFrame n [] s.inputBuffer := by
  have h0 : (BitVec.ofNat 4 n = 0) = (0 = n) :=
    propext ((ofNat4_inj h (Nat.zero_le 15)).trans eq_comm)
  simp only [State.beginFrame, State.inFrame, h0, ← hw]
  rfl

/-- A payload byte is stored (R157): one more of the frame is taken. -/
theorem State.storeByte_inFrame (s : State) {n : Nat} {p : List Byte} (b : Byte) (ib : List Byte) (hp : p.length < n)
    (hn : n ≤ 15) : (s.inFrame n p ib).storeByte b = s.inFrame n (p ++ [b]) ib := by
  have hidx : (BitVec.ofNat 4 p.length).toNat = p.length := ofNat4_toNat (by omega)
  have hend : (BitVec.ofNat 4 (p.length + 1) = BitVec.ofNat 4 n) = (p.length + 1 = n) :=
    propext (ofNat4_inj (by omega) hn)
  simp only [State.storeByte, State.inFrame, hidx, ofNat4_succ, hend, crcFold_concat, writeBytes_append, writeBytes,
    List.length_append, List.length_cons, List.length_nil, Nat.zero_add]

/-- Inside the payload a byte taken is stored (R157). -/
theorem State.decByte_inFrame_payload (s : State) {n : Nat} {p : List Byte} (b : Byte) (ib : List Byte)
    (hp : p.length < n) (hn : n ≤ 15) : (s.inFrame n p ib).decByte b = .next (s.inFrame n (p ++ [b]) ib) := by
  have hidx : (s.inFrame n p ib).decIdx.toNat < 15 := by
    show (BitVec.ofNat 4 p.length).toNat < 15
    rw [ofNat4_toNat (by omega)]; omega
  rw [State.decByte, s.inFrame_payload ib hp]
  simp only [hidx, if_true, s.storeByte_inFrame b ib hp hn]

/-- Behind the payload the byte taken is the check byte (R158). -/
theorem State.decByte_inFrame_chk (s : State) (p : List Byte) (c : Byte) (ib : List Byte) :
    (s.inFrame p.length p ib).decByte c = .next { s.takeFrame p c with inputBuffer := ib } := by
  rw [State.decByte, s.inFrame_chk ib rfl]
  rfl

/-- The payload bytes `q` still to come are taken, one a step (R157). -/
theorem Takes.payload {s : State} (h : s.awaiting) {n : Nat} {p q : List Byte} (tail : List Byte)
    (hn : p.length + q.length = n) (h15 : n ≤ 15) :
    Takes (s.inFrame n p (q ++ tail)) q (s.inFrame n (p ++ q) tail) := by
  induction q generalizing p with
  | nil => rw [List.append_nil]; exact .nil _
  | cons b q ih =>
    have hlt : p.length < n := by rw [List.length_cons] at hn; omega
    have hd : (s.inFrame n p (b :: q ++ tail)).decState ≠ .idle := by rw [s.inFrame_payload _ hlt]; nofun
    have hfirst : Takes (s.inFrame n p (b :: q ++ tail)) [b] (s.inFrame n (p ++ [b]) (q ++ tail)) :=
      .one (h.inFrame ..) hd rfl (s.decByte_inFrame_payload b (q ++ tail) hlt h15)
    have hrest := ih (p := p ++ [b]) (by simp at hn ⊢; omega)
    rw [List.append_assoc] at hrest
    exact hfirst.append hrest

/-! ### The whole frame -/

/-- A start marker and a legal length byte bring a hunting decoder into the frame (R155, R156). -/
theorem Takes.header {s : State} (h : s.hunting) {n : Nat} (rest : List Byte) (hn : n ≤ 15) :
    Takes { s with inputBuffer := Config.startMarker :: lenByte (BitVec.ofNat 4 n) :: rest }
      [Config.startMarker, lenByte (BitVec.ofNat 4 n)] (s.inFrame n [] rest) := by
  have hd := h.decState
  have marker : Takes { s with inputBuffer := Config.startMarker :: lenByte (BitVec.ofNat 4 n) :: rest }
      [Config.startMarker]
      { s with decState := .len, inputBuffer := lenByte (BitVec.ofNat 4 n) :: rest, waiting := false } := by
    refine .one h.awaiting (by simp [hd]) rfl ?_
    simp [State.decByte, hd]
  refine marker.append (.one h.awaiting nofun rfl ?_)
  simp only [State.decByte, lenOfByte_lenByte]
  rw [State.beginFrame_eq_inFrame hn rfl]
  rfl

/-- The check byte and the end marker take the decoder from the last payload byte to its checks (R158, R159). -/
theorem Takes.trailer {s : State} (h : s.awaiting) (hi : s.inputBuffer = []) {p : List Byte} (c : Byte) :
    Takes (s.inFrame p.length p [c, Config.endMarker]) [c, Config.endMarker] (s.takeFrame p c).endFrame := by
  have hd : (s.inFrame p.length p [c, Config.endMarker]).decState ≠ .idle := by rw [s.inFrame_chk _ rfl]; nofun
  have hcheck : Takes (s.inFrame p.length p [c, Config.endMarker]) [c]
      { s.takeFrame p c with inputBuffer := [Config.endMarker] } :=
    .one (h.inFrame ..) hd rfl (s.decByte_inFrame_chk p c [Config.endMarker])
  refine hcheck.append (.one h nofun rfl ?_)
  have hs : { s.takeFrame p c with inputBuffer := [], waiting := false } = s.takeFrame p c := by
    rw [← hi]; rfl
  show State.decByte { s.takeFrame p c with inputBuffer := [], waiting := false } Config.endMarker = _
  rw [hs]
  rfl

/-- A frame in the input buffer of a hunting block is taken byte by byte, and ends as a frame taken whole (R155 to R160). -/
theorem Takes.frame {s : State} (h : s.hunting) (hi : s.inputBuffer = []) {p : List Byte} (c : Byte)
    (hp : p.length ≤ 15) : Takes (s.arrive (frameBytes p c)) (frameBytes p c) (s.takeFrame p c).endFrame := by
  have start : s.arrive (frameBytes p c) =
      { s with
        inputBuffer :=
          Config.startMarker :: lenByte (BitVec.ofNat 4 p.length) :: (p ++ [c, Config.endMarker]) } := by
    simp [State.arrive, hi, frameBytes]
  have bytes : frameBytes p c =
      [Config.startMarker, lenByte (BitVec.ofNat 4 p.length)] ++ p ++ [c, Config.endMarker] := rfl
  rw [start, bytes]
  exact ((Takes.header h _ hp).append (Takes.payload h.awaiting _ (Nat.zero_add _) hp)).append
    (Takes.trailer h.awaiting hi c)

theorem frameBytes_length (p : List Byte) (c : Byte) : (frameBytes p c).length = p.length + 4 := by
  simp [frameBytes]

/-- The whole reception: the steps of the frame's bytes run to the end of a frame taken whole. -/
theorem run_frame {s : State} (h : s.hunting) (hi : s.inputBuffer = []) {p : List Byte} (c : Byte)
    (hp : p.length ≤ 15) :
    run (p.length + 4) (s.arrive (frameBytes p c)) = .next (s.takeFrame p c).endFrame := by
  rw [← frameBytes_length p c]
  exact (Takes.frame h hi c hp).run_eq

/-- Settles O17: the frame is taken by `Takes.frame`, one byte a step. -/
theorem frameReceptionAgreesWithBytes : Obligations.FrameReceptionAgreesWithBytes := by
  intro s p c h hi hp
  refine ⟨_, exec_frame c s hp, fun k hk => ?_, run_frame h hi c hp⟩
  rw [← frameBytes_length p c] at hk
  simpa [hi] using (Takes.frame h hi c hp).run_drop hk

/-! ### The end of a frame -/

/-- A frame with a payload and the right check byte succeeds (R199). -/
theorem State.endFrame_takeFrame_valid (s : State) {p : List Byte} (hne : p ≠ []) (hp : p.length ≤ 15) :
    (s.takeFrame p (chk8 p)).endFrame = (s.takeFrame p (chk8 p)).succeed := by
  have hlen : BitVec.ofNat 4 p.length ≠ 0 := by
    exact fun h0 => hne (List.length_eq_zero_iff.mp ((ofNat4_inj hp (Nat.zero_le 15)).mp h0))
  rcases (s.takeFrame p (chk8 p)).endFrame_cases with ⟨hc, -⟩ | ⟨-, h0, -⟩ | ⟨-, -, h⟩
  · exact absurd (crcCheck_crcFold p).symm hc
  · exact absurd h0 hlen
  · exact h

/-- A frame with a wrong check byte is a failed attempt (R159). -/
theorem State.endFrame_takeFrame_corrupt (s : State) {p : List Byte} {c : Byte} (hc : c ≠ chk8 p) :
    (s.takeFrame p c).endFrame = (s.takeFrame p c).failAttempt .integrity :=
  if_pos hc

/-- A valid empty frame is a failed attempt (R196). -/
theorem State.endFrame_takeFrame_empty (s : State) :
    (s.takeFrame [] (chk8 [])).endFrame = (s.takeFrame [] (chk8 [])).failAttempt .emptyReply := by
  rcases (s.takeFrame [] (chk8 [])).endFrame_cases with ⟨hc, -⟩ | ⟨-, -, h⟩ | ⟨-, h0, -⟩
  · exact absurd (crcCheck_crcFold []).symm hc
  · exact h
  · exact absurd rfl h0

/-- A failed attempt is recorded, logged, and retried unless it was the third (R322, R323). -/
theorem State.failAttempt_failedInto (s : State) (c : Cause) : s.failedInto (s.failAttempt c) c := by
  rcases s.failAttempt_cases c with ⟨h3, h⟩ | ⟨h3, h⟩
  · rw [h, State.finish_frame]
    exact ⟨rfl, by rw [h3], rfl, fun _ => ⟨rfl, rfl, h3⟩, fun hn => absurd h3 hn⟩
  · rw [h]
    exact ⟨rfl, rfl, rfl, fun h => absurd h h3, fun _ => ⟨rfl, rfl, rfl⟩⟩

/-- Settles O36: the end of the frame is `failAttempt` with the cause of its fault. -/
theorem corruptOrEmptyFrameFails : Obligations.CorruptOrEmptyFrameFails := by
  intro s p c h hi hp
  refine ⟨fun hc => ⟨_, _, exec_frame c s hp, run_frame h hi c hp, ?_⟩,
    fun hc => ⟨_, _, exec_frame c s (Nat.zero_le 15), run_frame h hi c (Nat.zero_le 15), ?_⟩⟩
  · rw [s.endFrame_takeFrame_corrupt hc]
    exact (s.takeFrame p c).failAttempt_failedInto .integrity
  · subst hc
    rw [s.endFrame_takeFrame_empty]
    exact (s.takeFrame [] (chk8 [])).failAttempt_failedInto .emptyReply

/-- A success goes to the `COMMAND` in progress, or with its payload to the host (R199). -/
theorem State.succeed_cases (s : State) :
    (s.cmdPhase = .running ∧
      s.succeed = { s with decState := .idle, resTag := .success, txnState := .idle, cmdPhase := .replyDue }) ∨
    (s.cmdPhase ≠ .running ∧
      s.succeed =
        { s with
          decState := .idle, resTag := .success, txnState := .idle,
          results := s.results ++ [.success s.received] }) :=
  State.finish_cases { s with decState := .idle, resTag := .success, txnState := .idle }

/-- The bytes of `rx_buf` behind the payload are as they were. -/
theorem State.takeFrame_rxBuf_tail (s : State) (p : List Byte) (c : Byte) {k : Nat} (h : p.length ≤ k) :
    (s.takeFrame p c).rxBuf.toList[k]? = s.rxBuf.toList[k]? := by
  rw [State.takeFrame_rxBuf, writeBytes_getElem?, if_neg (by omega)]

/-- Settles O35: the end of the frame is `succeed`, which only hands the payload over. -/
theorem validFrameReceivedIsSuccess : Obligations.ValidFrameReceivedIsSuccess := by
  intro s p h hi hne hp
  refine ⟨_, _, exec_frame _ s hp, run_frame h hi _ hp, ?_⟩
  rw [s.endFrame_takeFrame_valid hne hp]
  have hreceived := s.takeFrame_received (chk8 p) hp
  have htail := fun k => s.takeFrame_rxBuf_tail p (chk8 p) (k := k)
  rcases (s.takeFrame p (chk8 p)).succeed_cases with ⟨hcmd, hs⟩ | ⟨hcmd, hs⟩ <;> rw [hs]
  · exact ⟨hreceived, htail, fun _ => ⟨rfl, rfl⟩, fun h0 => absurd (hcmd.symm.trans h0) nofun, rfl⟩
  · rw [hreceived]
    exact ⟨hreceived, htail, fun hrun => absurd hrun hcmd, fun h0 => ⟨h0, rfl⟩, rfl⟩

end Sys2Proof.Machine
end

section
/-! PROOF. The big-endian fields (R9, R232, R285). -/

namespace Sys2Proof

open Machine

/-- The four bytes of a 32-bit field are determined by its value. -/
theorem ube32_inj {a b c d a' b' c' d' : Byte} (h : ube32 a b c d = ube32 a' b' c' d') :
    a = a' ∧ b = b' ∧ c = c' ∧ d = d' := by
  have hv := congrArg BitVec.toNat h
  rw [ube32_toNat, ube32_toNat] at hv
  refine ⟨?_, ?_, ?_, ?_⟩ <;> bv_omega

/-- The packer inverts the extractor. -/
theorem be32_ube32 (b0 b1 b2 b3 : Byte) : be32 (ube32 b0 b1 b2 b3) = [b0, b1, b2, b3] := by
  obtain ⟨h0, h1, h2, h3⟩ := ube32_inj (ube32_extract (ube32 b0 b1 b2 b3))
  rw [be32, h0, h1, h2, h3]

/-- Settles O57, from the values of the fields and the packers' inverses. -/
theorem bigEndianFields : Obligations.BigEndianFields := by
  refine ⟨fun v => ⟨_, _, rfl, ?_⟩, be16_ube16, fun b0 b1 b2 b3 => ⟨ube32_toNat .., be32_ube32 ..⟩⟩
  have h := ube16_toNat (v.extractLsb' 8 8) (v.extractLsb' 0 8)
  rwa [ube16_extract] at h

end Sys2Proof
end

section
/-! PROOF. What a step can do, said once (`Reaction`, `Effect`), and from that `FatalIsSticky`. -/

namespace Sys2Proof.Machine

/-! ### The answer to a call -/

/-- The call in progress is over, the streams are `m` (R61, R62). -/
def State.afterCall (s : State) (m : Streams) : State :=
  { s with
    txStream := m.tx, inputBuffer := m.input, rxAnswers := m.rx, txAnswers := m.put, lineAnswers := m.line,
    waiting := false }

/-- What the block does with the answer to its call, the call being over: a `Fault` (R200); a failed attempt (R322); a byte
put (R152); a byte taken (R155 to R159). -/
inductive Reaction (s : State) : State → Prop where
  | fault : Reaction s s.transportError
  | failed {c : Cause} (hd : s.decState ≠ .idle) (hc : c.endsAttempt = true) : Reaction s (s.failAttempt c)
  | put {b : Byte} (hb : s.encByte = some b) : Reaction s (s.encAdvance b)
  | ignored : Reaction s s
  | started (hd : s.decState = .hunt) : Reaction s { s with decState := .len }
  | length (n : Nibble) (hd : s.decState = .len) : Reaction s (s.beginFrame n)
  | stored (b : Byte) (hd : s.decState = .payload) : Reaction s (s.storeByte b)
  | checked (b : Byte) (hd : s.decState = .chk) : Reaction s { s with decChk := b, decState := .endMark }
  | ended (hd : s.decState = .endMark) (hl : s.decLen ≠ 0) : Reaction s s.succeed

theorem State.endFrame_reaction {s : State} (hd : s.decState = .endMark) : Reaction s s.endFrame := by
  have hne : s.decState ≠ .idle := by rw [hd]; nofun
  rcases s.endFrame_cases with ⟨-, h⟩ | ⟨-, -, h⟩ | ⟨-, hl, h⟩ <;> rw [h]
  · exact .failed hne rfl
  · exact .failed hne rfl
  · exact .ended hd hl

theorem State.decByte_reaction {s t : State} {b : Byte} (h : s.decByte b = .next t) : Reaction s t := by
  unfold State.decByte at h
  cases hd : s.decState <;> simp only [hd] at h
  case idle => cases h; exact .ignored
  case hunt =>
    cases h
    split
    · exact .started hd
    · exact .ignored
  case len =>
    split at h <;> cases h
    · exact .failed (by rw [hd]; nofun) rfl
    · exact .length _ hd
  case payload =>
    split at h <;> cases h
    exact .stored b hd
  case chk => cases h; exact .checked b hd
  case endMark =>
    cases h
    split
    · exact State.endFrame_reaction hd
    · exact .failed (by rw [hd]; nofun) rfl

theorem State.awaitAnswer_reaction {s t : State} {a : RxAnswer} (hd : s.decState ≠ .idle)
    (h : s.awaitAnswer a = .next t) : Reaction s t := by
  cases a with
  | byte b => exact State.decByte_reaction h
  | timeout => cases h; exact .failed hd rfl
  | fault => cases h; exact .fault

/-! ### What a step can do -/

/-- Reset is the next event the block sees: the host's next event, or one that overtakes a waiting `SESSION_OPEN`
(log 8). -/
def resetSeen (es : List HostEvent) : Prop :=
  (∃ rest, es = .reset :: rest) ∨ ∃ d b rest, es = .sessionOpen d b :: rest ∧ .reset ∈ rest

/-- What a step does to `s`, the events to come being `es`. The events left are no part of `s` here. -/
inductive Effect (es : List HostEvent) (s : State) : State → Prop where
  | still : Effect es s s
  | reset (h : resetSeen es) : Effect es s s.hardReset
  | waits (hx : s.txnState ≠ .idle) : Effect es s { s with waiting := true }
  | reacts {t : State} (m : Streams) (h : Reaction (s.afterCall m) t) : Effect es s t
  | command (p : List Byte) : Effect es s (s.command p)
  | execute (p : List Byte) : Effect es s (s.execute p)
  | tooLong : Effect es s (s.give (.refused .payloadTooLong))
  | alive (a : Bool) : Effect es s ({ s with rplAlive := a, rplKind := .alive, cmdPhase := .none }.give (.alive a))
  | status (n : Nibble) (hn : n.toNat ≤ 9) :
      Effect es s ({ s with rplStatus := n, rplKind := .status, cmdPhase := .none }.give (.status n))
  | state (flags head tail count echo : Byte) (irq cmd : Word) (r : HostResult) :
      Effect es s ({ s with
        rplFlags := flags, rplHead := head, rplTail := tail, rplCount := count, rplIrqCnt := irq, rplCmdCnt := cmd,
        rplEchoCount := echo, rplKind := .state, cmdPhase := .none }.give r)
  | violation : Effect es s s.violate
  | unsuccessful (r : HostResult) : Effect es s ({ s with cmdPhase := .none }.give r)
  | opens {t : State} {d : List Byte} {b : Nat} {rest : List HostEvent} (he : es = .sessionOpen d b :: rest)
      (h : s.sessionOpen d b = some t) : Effect es s t
  | closes : Effect es s s.sessionClose
  | arrive (bs : List Byte) : Effect es s (s.arrive bs)
  | keep (a : TransportAnswer) : Effect es s (s.answered a)

theorem State.sendStep_effect {es : List HostEvent} {s t : State} (hx : s.txnState = .send)
    (h : s.sendStep = .next t) : Effect es s t := by
  rcases s.sendStep_cases with ⟨-, hs⟩ | ⟨-, -, hs⟩ | ⟨b, hb, ⟨-, hs⟩ | ⟨rest, -, hs⟩ | ⟨rest, -, hs⟩⟩ <;>
    rw [hs] at h <;> cases h
  · exact .still
  · exact .waits (by rw [hx]; nofun)
  · exact .reacts { s.streams with put := rest } .fault
  · exact .reacts { s.streams with put := rest, tx := s.txStream ++ [b] } (.put hb)

theorem State.awaitStep_effect {es : List HostEvent} {s t : State} (hx : s.txnState = .await)
    (h : s.awaitStep = .next t) : Effect es s t := by
  rcases s.awaitStep_cases with ⟨-, hs⟩ | ⟨-, -, hs⟩ | ⟨hd, r, ib, ra, -, -, hs⟩ <;> rw [hs] at h
  · cases h; exact .still
  · cases h; exact .waits (by rw [hx]; nofun)
  · exact .reacts { s.streams with input := ib, rx := ra } (State.awaitAnswer_reaction hd h)

theorem State.blockStep_effect {es : List HostEvent} {s t : State} (h : s.blockStep = .next t) : Effect es s t := by
  rcases s.blockStep_cases with ⟨-, hs⟩ | ⟨-, -, -, hs⟩ | ⟨hx, -, hs⟩ | ⟨hx, -, hs⟩ <;> rw [hs] at h
  · cases h; exact .still
  · cases h; exact .reacts s.streams .fault
  · exact State.sendStep_effect hx h
  · exact State.awaitStep_effect hx h

theorem State.taking_decState {s : State} (h : s.taking = true) : s.decState ≠ .idle := by
  have hd : (s.decState != .idle) = true := (Bool.and_eq_true_iff.mp h).2
  simpa using hd

theorem State.putting_iff {s : State} :
    s.putting = true ↔ s.waiting = true ∧ s.txnState = .send ∧ s.encState ≠ .idle := by
  simp [State.putting, and_assoc]

/-- An answer of the transport (R320 (b)): kept, or the answer to the call in progress. -/
theorem State.answer_effect {es : List HostEvent} {s t : State} {a : TransportAnswer} (h : s.answer a = .next t) :
    Effect es s t := by
  rcases s.answer_cases a with ⟨-, -, hs⟩ | ⟨hput, r, -, hs⟩ | ⟨htake, -, hs⟩ | ⟨-, -, hs⟩ <;> rw [hs] at h
  · cases h; exact .keep a
  · obtain ⟨-, hx, hidle⟩ := State.putting_iff.mp hput
    rcases State.sendStep_cases { s with txAnswers := r :: s.txAnswers } with
      ⟨hi, -⟩ | ⟨-, -, hs⟩ | ⟨b, hb, ⟨ha, -⟩ | ⟨later, -, hs⟩ | ⟨later, -, hs⟩⟩
    · exact absurd hi hidle
    · rw [hs] at h; cases h
    · exact nomatch ha
    · rw [hs] at h; cases h
      exact .reacts { s.streams with put := later } .fault
    · rw [hs] at h; cases h
      exact .reacts { s.streams with put := later, tx := s.txStream ++ [b] } (.put hb)
  · cases h
    have hd : s.decState ≠ .idle := State.taking_decState htake
    exact .reacts s.streams (.failed hd rfl)
  · cases h; exact .reacts s.streams .fault

/-- A meaning is a request, an arrival or a reply decoded (R209, R190, R69, R281 to R283). -/
theorem exec_effect {es : List HostEvent} {i : Instr} {s t : State} (h : exec i s = .next t) : Effect es s t := by
  by_cases hp : portOf i = .typed
  · rw [exec_typed i s hp] at h
    cases h; exact .command _
  cases i
  case raw => cases h; exact .execute _
  case frame =>
    simp only [exec, execFrame] at h
    split at h <;> cases h
    · exact .tooLong
    · exact .arrive _
  case replyAlive => cases h; exact .alive _
  case replyStatus n =>
    simp only [exec, execReplyStatus] at h
    split at h <;> cases h
    · exact .violation
    · exact .status n (by omega)
  case replyState => cases h; exact .state ..
  all_goals exact absurd rfl hp

theorem fetchReply_effect {es : List HostEvent} {s t : State} (h : (fetchReply s).outcome = .next t) :
    Effect es s t := by
  unfold fetchReply at h
  split at h
  · split at h
    · exact exec_effect h
    · cases h; exact .violation
  · split at h
    · exact exec_effect (i := .replyAlive []) h
    · cases h; exact .unsuccessful .exhausted
  all_goals cases h; exact .unsuccessful .transportFatal

/-- A command runs as `COMMAND` of its words, row or none (R209). -/
theorem runCommand_outcome (c : Command) (s : State) :
    (runCommand c s).outcome = .next (s.command (build s.params.hat c)) := by
  rcases runCommand_cases c s with ⟨i, -, hr, he⟩ | ⟨-, hr⟩ <;> rw [hr]
  · exact he
  · rfl

theorem runCommand_effect {es : List HostEvent} {c : Command} {s t : State} (h : (runCommand c s).outcome = .next t) :
    Effect es s t := by
  rw [runCommand_outcome] at h
  cases h; exact .command _

theorem fetchCommand_effect {es : List HostEvent} {c : Command} {s t : State}
    (h : (fetchCommand c s).outcome = .next t) : Effect es s t := by
  unfold fetchCommand at h
  split at h
  · exact runCommand_effect h
  · cases h

theorem fetchCall_effect {es : List HostEvent} {i : Instr} {s t : State} (h : (fetchCall i s).outcome = .next t) :
    Effect es s t := by
  unfold fetchCall at h
  split at h
  · split at h
    · exact exec_effect h
    · cases h
  · exact exec_effect h
  all_goals cases h

theorem fetchWords_effect {es : List HostEvent} {p : Port} {bs : List Byte} {s t : State}
    (h : (fetchWords p bs s).outcome = .next t) : Effect es s t := by
  cases p <;> simp only [fetchWords] at h
  case typed =>
    split at h
    · exact runCommand_effect h
    · cases h
  case raw => exact exec_effect (i := .raw bs) h
  case wire =>
    split at h
    · exact exec_effect h
    · cases h; exact .arrive bs
  case reply => cases h

theorem openWaits_effect (d : List Byte) (b : Nat) (rest : List HostEvent) (s : State) :
    ∃ later, Effect (.sessionOpen d b :: rest) { s with schedule := later } (openWaits d b rest s) := by
  rcases openWaits_cases d b rest s with
    ⟨later, hr, h⟩ | h | ⟨later, h⟩ | ⟨later, bs, h⟩ | ⟨later, a, h⟩ <;> rw [h]
  · exact ⟨later, .reset (.inr ⟨d, b, rest, rfl, hr⟩)⟩
  · exact ⟨s.schedule, .still⟩
  · exact ⟨_, .still⟩
  · exact ⟨_, .arrive bs⟩
  · exact ⟨_, .keep a⟩

theorem fetchEvent_effect {e : HostEvent} {rest : List HostEvent} {s t : State}
    (h : (fetchEvent e rest s).outcome = .next t) :
    ∃ later, Effect (e :: rest) { s with schedule := later } t := by
  cases e with
  | pass => exact ⟨rest, State.blockStep_effect h⟩
  | reset => cases h; exact ⟨rest, .reset (.inl ⟨rest, rfl⟩)⟩
  | sessionOpen d b =>
    simp only [fetchEvent] at h
    split at h <;> cases h
    · exact ⟨rest, .opens rfl ‹_›⟩
    · exact openWaits_effect d b rest s
  | sessionClose => cases h; exact ⟨rest, .closes⟩
  | call i => exact ⟨rest, fetchCall_effect h⟩
  | command c => exact ⟨rest, fetchCommand_effect h⟩
  | words p bs => exact ⟨rest, fetchWords_effect h⟩
  | answer a => exact ⟨rest, State.answer_effect h⟩

/-- What a step does (R320). -/
theorem step_effect {s t : State} (h : step s = .next t) :
    ∃ later, Effect s.schedule { s with schedule := later } t := by
  rw [step_eq_outcome] at h
  rcases fetch_cases s with ⟨rest, hs, hf⟩ | ⟨-, -, hf⟩ | ⟨-, -, hf⟩ | ⟨-, e, rest, -, hs, hf⟩ <;> rw [hf] at h
  · cases h; exact ⟨rest, .reset (.inl ⟨rest, hs⟩)⟩
  · exact ⟨s.schedule, fetchReply_effect h⟩
  · exact ⟨s.schedule, State.blockStep_effect h⟩
  · rw [hs]; exact fetchEvent_effect h

/-! ### `fatal` and the parameters -/

/-- `fatal` is not cleared and the parameters are not written. -/
def State.Keeps (s t : State) : Prop :=
  (s.fatal = true → t.fatal = true) ∧ t.params = s.params

theorem State.Keeps.of_eq {s t : State} (hf : t.fatal = s.fatal) (hp : t.params = s.params) : s.Keeps t :=
  ⟨hf.trans, hp⟩

theorem State.finish_keeps {s u : State} (h : s.Keeps u) : s.Keeps u.finish := by
  rw [u.finish_frame]; exact h

theorem State.failAttempt_keeps (s : State) (c : Cause) : s.Keeps (s.failAttempt c) := by
  rcases s.failAttempt_cases c with ⟨-, h⟩ | ⟨-, h⟩ <;> rw [h]
  · exact State.finish_keeps (.of_eq rfl rfl)
  · exact .of_eq rfl rfl

theorem State.transportError_keeps (s : State) : s.Keeps s.transportError :=
  State.finish_keeps ⟨fun _ => rfl, rfl⟩

theorem State.encAdvance_keeps (s : State) (b : Byte) : s.Keeps (s.encAdvance b) := by
  unfold State.encAdvance
  cases s.encState <;> exact .of_eq rfl rfl

theorem Reaction.keeps {s t : State} (h : Reaction s t) : s.Keeps t := by
  cases h with
  | fault => exact s.transportError_keeps
  | failed => exact s.failAttempt_keeps _
  | put => exact s.encAdvance_keeps _
  | ended => exact State.finish_keeps (.of_eq rfl rfl)
  | _ => exact .of_eq rfl rfl

theorem State.runExecute_keeps (s : State) (p : List Byte) : s.Keeps (s.runExecute p) := by
  rcases s.runExecute_cases p with ⟨-, h⟩ | ⟨-, h⟩ <;> rw [h]
  · exact .of_eq rfl rfl
  · exact State.finish_keeps (.of_eq rfl rfl)

theorem State.command_keeps (s : State) (p : List Byte) : s.Keeps (s.command p) := by
  rcases s.command_cases p with ⟨-, h⟩ | ⟨-, h⟩ <;> rw [h]
  · exact .of_eq rfl rfl
  · exact State.runExecute_keeps { s with curOp := p.headD 0, rplKind := .none, cmdPhase := .running } p

theorem State.execute_keeps (s : State) (p : List Byte) : s.Keeps (s.execute p) := by
  rcases s.execute_cases p with ⟨-, h⟩ | ⟨-, -, h⟩ | ⟨-, -, h⟩ <;> rw [h]
  · exact .of_eq rfl rfl
  · exact .of_eq rfl rfl
  · exact State.runExecute_keeps { s with cmdPhase := .none } p

/-- The state with the fields a `SESSION_OPEN` writes before its end (R206). -/
def State.opening (s : State) (ss : SessState) (ib : List Byte) (la : List LineAnswer) (cs : List TransportCall) :
    State :=
  { s with sessState := ss, inputBuffer := ib, lineAnswers := la, calls := cs }

/-- The end of a `SESSION_OPEN` that succeeds (R206 step 6). -/
def State.openDone (s : State) : State :=
  { s with sessState := .cleared, fatal := false }.give .opened

theorem State.resetInput_eq (s : State) (r : LineAnswer) :
    ∃ ib, s.resetInput r = s.opening s.sessState ib s.lineAnswers s.calls := by
  cases r
  · exact ⟨[], rfl⟩
  · exact ⟨s.inputBuffer, rfl⟩

/-- The two buffer resets answered (R206 steps 4 to 6): failed, or the Session cleared. -/
theorem State.openAnswered_cases (s : State) (r1 r2 : LineAnswer) :
    ∃ ib cs, s.openAnswered r1 r2 = (s.opening .opened ib s.lineAnswers cs).openFailed ∨
      s.openAnswered r1 r2 = (s.opening .opened ib s.lineAnswers cs).openDone := by
  obtain ⟨ib, hib⟩ := ({ s with sessState := .opened }.ask [.resetInputBuffer, .resetOutputBuffer]).resetInput_eq r1
  refine ⟨ib, s.calls ++ [TransportCall.resetInputBuffer, TransportCall.resetOutputBuffer], ?_⟩
  unfold State.openAnswered
  split <;> simp only [hib]
  · exact .inl rfl
  · exact .inr rfl

/-- `SESSION_OPEN` from step 3 on, with its answers in (R206). -/
theorem State.openLine_cases {s t : State} {d : List Byte} {b : Nat} (h : s.openLine d b = some t) :
    ∃ ss ib la cs, t = (s.opening ss ib la cs).openFailed ∨ t = (s.opening ss ib la cs).openDone := by
  unfold State.openLine at h
  split at h <;> cases h
  next la _ =>
    refine ⟨s.sessState, s.inputBuffer, la, s.calls ++ [TransportCall.openLine d b], .inl ?_⟩
    rfl
  next r1 r2 la _ =>
    obtain ⟨ib, cs, h⟩ := ({ s with lineAnswers := la }.ask [.openLine d b]).openAnswered_cases r1 r2
    exact ⟨.opened, ib, la, cs, h⟩

/-- A `SESSION_OPEN` with its answers in (R206): refused; or, the block idle, failed or done. -/
theorem State.sessionOpen_cases {s t : State} {d : List Byte} {b : Nat} (h : s.sessionOpen d b = some t) :
    (∃ c, t = s.give (.refused c)) ∨
    (s.txnState = .idle ∧
      ∃ ss ib la cs, t = (s.opening ss ib la cs).openFailed ∨ t = (s.opening ss ib la cs).openDone) := by
  unfold State.sessionOpen at h
  by_cases hx : s.txnState = .idle
  · rw [if_neg (by simp [State.busy, hx])] at h
    split at h
    · cases h; exact .inl ⟨.badSessionOp, rfl⟩
    · exact .inr ⟨hx, State.openLine_cases h⟩
  · rw [if_pos (by simp [State.busy, hx])] at h
    cases h; exact .inl ⟨.busy, rfl⟩

theorem State.sessionClose_eq (s : State) :
    ∃ cs, s.sessionClose = { s with sessState := .closed, calls := cs }.give .closed := by
  unfold State.sessionClose
  split
  next h => exact ⟨s.calls, by rw [← h]⟩
  next => exact ⟨_, rfl⟩

theorem State.sessionClose_keeps (s : State) : s.Keeps s.sessionClose := by
  obtain ⟨cs, h⟩ := s.sessionClose_eq
  rw [h]; exact .of_eq rfl rfl

/-- `SESSION_OPEN` clears `fatal` only as it leaves the Session cleared (R30, R206). -/
theorem State.sessionOpen_keeps {s t : State} {d : List Byte} {b : Nat} (h : s.sessionOpen d b = some t) :
    t.params = s.params ∧ (s.Keeps t ∨ t.sessState = .cleared) := by
  rcases State.sessionOpen_cases h with ⟨c, rfl⟩ | ⟨-, ss, ib, la, cs, rfl | rfl⟩
  · exact ⟨rfl, .inl (.of_eq rfl rfl)⟩
  · exact ⟨rfl, .inl ⟨fun _ => rfl, rfl⟩⟩
  · exact ⟨rfl, .inr rfl⟩

/-- A way out of a fault (R30): a reset, or a `SESSION_OPEN` that leaves the Session of `t` cleared. -/
def fatalExit (es : List HostEvent) (t : State) : Prop :=
  resetSeen es ∨ ∃ d b rest, es = .sessionOpen d b :: rest ∧ t.sessState = .cleared

/-- No step writes the parameters, and one that clears `fatal` is a reset or a successful `SESSION_OPEN`. -/
theorem Effect.keeps {es : List HostEvent} {s t : State} (h : Effect es s t) :
    t.params = s.params ∧ (s.Keeps t ∨ fatalExit es t) := by
  have kept {u : State} (hu : s.Keeps u) : u.params = s.params ∧ (s.Keeps u ∨ fatalExit es u) := ⟨hu.2, .inl hu⟩
  cases h with
  | reset h => exact ⟨rfl, .inr (.inl h)⟩
  | reacts m h =>
    have hk : (s.afterCall m).Keeps _ := h.keeps
    exact kept hk
  | command p => exact kept (s.command_keeps p)
  | execute p => exact kept (s.execute_keeps p)
  | opens he h =>
    obtain ⟨hp, hk | hc⟩ := State.sessionOpen_keeps h
    · exact kept hk
    · exact ⟨hp, .inr (.inr ⟨_, _, _, he, hc⟩)⟩
  | closes => exact kept s.sessionClose_keeps
  | _ => exact kept (.of_eq rfl rfl)

/-- No step writes the parameters (log 12). -/
theorem step_params {s t : State} (h : step s = .next t) : t.params = s.params := by
  obtain ⟨later, h⟩ := step_effect h
  exact h.keeps.1

/-- Settles O51: of all effects of a step only a reset and a successful `SESSION_OPEN` can clear `fatal`. -/
theorem fatalIsSticky : Obligations.FatalIsSticky := by
  intro s t h hs ht
  obtain ⟨later, h⟩ := step_effect h
  rcases h.keeps.2 with hk | hr | hc
  · exact absurd (hk.1 hs) (by simp [ht])
  · exact hr.imp_right .inl
  · exact .inr (.inr hc)

end Sys2Proof.Machine
end

section
/-! PROOF. The invariant of the registers (R23, R26 to R28, R132, R310) at reset and under every effect of a step:
`InvariantHoldsAfterReset` and `StepKeepsTheInvariant`. -/

namespace Sys2Proof.Machine

/-! ### States with no transaction in progress -/

/-- What the invariant asks of a block that is idle. -/
theorem State.inv_of_idle {s : State} (hx : s.txnState = .idle) (he : s.encState = .idle) (hd : s.decState = .idle)
    (hc : s.cmdPhase ≠ .running) (hw : s.waiting = false) (ht : s.cmdPhase = .replyDue → s.resTag ≠ .none)
    (hr : s.resultInv) : s.Inv := by
  refine ⟨?_, ?_, ?_, hr⟩
  · simp [State.encoderInv, hx, he]
  · simp [State.decoderInv, hx, hd]
  · simp [State.transactionInv, hx, hc, hw]; exact ht

/-- Settles O19: the state after reset is idle, with no result. -/
theorem invariantHoldsAfterReset : Obligations.InvariantHoldsAfterReset :=
  State.inv_of_idle rfl rfl rfl nofun rfl nofun ⟨nofun, Nat.zero_le _, Nat.zero_le _⟩

theorem State.Inv.encState_idle {s : State} (h : s.Inv) (hx : s.txnState ≠ .send) : s.encState = .idle := by
  obtain ⟨⟨he, -⟩, -⟩ := h
  exact not_not.mp fun hn => hx (he.mpr hn)

theorem State.Inv.decState_idle {s : State} (h : s.Inv) (hx : s.txnState ≠ .await) : s.decState = .idle := by
  obtain ⟨-, ⟨hd, -⟩, -⟩ := h
  exact not_not.mp fun hn => hx (hd.mpr hn)

theorem State.Inv.txnState_send {s : State} (h : s.Inv) (he : s.encState ≠ .idle) : s.txnState = .send := by
  obtain ⟨⟨hsend, -⟩, -⟩ := h
  exact hsend.mpr he

theorem State.Inv.txnState_await {s : State} (h : s.Inv) (hd : s.decState ≠ .idle) : s.txnState = .await := by
  obtain ⟨-, ⟨hawait, -⟩, -⟩ := h
  exact hawait.mpr hd

/-- The end of a transaction leaves an idle block, whose reply is due or whose result is returned. -/
theorem State.finish_inv {s : State} (hx : s.txnState = .idle) (he : s.encState = .idle) (hd : s.decState = .idle)
    (hw : s.waiting = false) (ht : s.resTag ≠ .none) (hr : s.resultInv) : s.finish.Inv := by
  rcases s.finish_cases with ⟨-, h⟩ | ⟨hc, h⟩ <;> rw [h]
  · exact State.inv_of_idle hx he hd nofun hw (fun _ => ht) hr
  · exact State.inv_of_idle hx he hd hc hw (fun _ => ht) hr

/-! ### The ends of a call -/

theorem State.Inv.transportError {s : State} (h : s.Inv) : s.transportError.Inv := by
  obtain ⟨-, -, -, -, -, hs⟩ := h
  exact State.finish_inv rfl rfl rfl rfl nofun ⟨nofun, Nat.le_refl 7, hs⟩

theorem Cause.code_of_endsAttempt {c : Cause} (h : c.endsAttempt = true) : c.code.toNat ≤ 7 := by
  revert h; cases c <;> decide

/-- A third failed attempt ends the transaction, an earlier one starts the next (R193, R198, R322). -/
theorem State.Inv.failAttempt {s : State} (h : s.Inv) (hx : s.txnState = .await) (hw : s.waiting = false) {c : Cause}
    (hc : c.endsAttempt = true) : (s.failAttempt c).Inv := by
  have he : s.encState = .idle := h.encState_idle (by rw [hx]; nofun)
  have hc7 := Cause.code_of_endsAttempt hc
  obtain ⟨-, -, ⟨hattempt, hsess, hphase, -, -⟩, -, -, hstatus⟩ := h
  have hne : s.txnState ≠ .idle := by rw [hx]; nofun
  obtain ⟨h1, htag⟩ := hattempt hne
  rcases s.failAttempt_cases c with ⟨-, hf⟩ | ⟨h3, hf⟩ <;> rw [hf]
  · exact State.finish_inv rfl he rfl hw nofun ⟨nofun, hc7, hstatus⟩
  · have hnext : 1 ≤ (s.attempt + 1).toNat := by bv_omega
    refine ⟨⟨?_, nofun, nofun, nofun⟩, ⟨?_, nofun, nofun, ?_⟩,
      ⟨fun _ => ⟨hnext, htag⟩, fun _ => hsess hne, fun _ => hphase hne, nofun, fun hp => absurd hp (hphase hne)⟩,
      fun hs => ?_, hc7, hstatus⟩
    · simp
    · simp
    · simp
    · rw [htag] at hs; cases hs

theorem State.Inv.succeed {s : State} (h : s.Inv) (hd : s.decState = .endMark) (hw : s.waiting = false)
    (hl : s.decLen ≠ 0) : s.succeed.Inv := by
  have hx : s.txnState = .await := h.txnState_await (by rw [hd]; nofun)
  have he : s.encState = .idle := h.encState_idle (by rw [hx]; nofun)
  obtain ⟨-, -, -, -, hcode, hstatus⟩ := h
  exact State.finish_inv rfl he rfl hw nofun ⟨fun _ => hl, hcode, hstatus⟩

/-! ### The accumulator over a buffer -/

/-- The accumulator over one more byte of a buffer (R132). -/
theorem crcFold_take_succ {l : List Byte} {k : Nat} {b : Byte} (h : l[k]? = some b) :
    crcFold crcInitial (l.take (k + 1)) = crcUpdate (crcFold crcInitial (l.take k)) b := by
  rw [List.take_add_one, h]
  exact crcFold_concat ..

/-- The accumulator over a byte stored behind the others (R157). -/
theorem crcFold_take_store (v : Buf) {k : Nat} (b : Byte) (h : k < 15) :
    crcFold crcInitial ((v.setIfInBounds k b).toList.take (k + 1)) =
      crcUpdate (crcFold crcInitial (v.toList.take k)) b := by
  have hb : (v.setIfInBounds k b).toList[k]? = some b := by simp [h]
  have hk : (v.setIfInBounds k b).toList.take k = v.toList.take k := by
    rw [Vector.toList_setIfInBounds, List.take_set_of_le (Nat.le_refl k)]
  rw [crcFold_take_succ hb, hk]

/-- An index inside a length does not wrap. -/
theorem nibble_succ {k n : Nibble} (h : k < n) : (k + 1).toNat = k.toNat + 1 ∧ k + 1 ≤ n := by
  constructor <;> bv_omega

/-- The bytes up to an index inside the length are the buffer's. -/
theorem take_take_of_lt {l : List Byte} {k n : Nibble} (h : k < n) :
    (l.take n.toNat).take k.toNat = l.take k.toNat := by
  rw [List.take_take, Nat.min_eq_left (BitVec.le_def.mp (BitVec.le_of_lt h))]

/-! ### The send sequence -/

/-- The encoder at a byte that is neither a payload byte nor the check byte. -/
theorem State.Inv.sending {s : State} (h : s.Inv) (hx : s.txnState = .send) {e : EncState} (he : e ≠ .idle)
    (hp : e ≠ .payload) (hc : e ≠ .chk) : { s with encState := e }.Inv := by
  have hd : s.decState = .idle := h.decState_idle (by rw [hx]; nofun)
  obtain ⟨-, -, htxn, hres⟩ := h
  exact ⟨⟨iff_of_true hx he, fun h => absurd h hp, fun h => absurd h hp, fun h => absurd h hc⟩,
    by simp [State.decoderInv, hx, hd], htxn, hres⟩

/-- The encoder with the first `j` payload bytes out and covered: at the next one or, all being out, at the check
byte. -/
theorem State.Inv.sendingAt {s : State} (h : s.Inv) (hx : s.txnState = .send) {j : Nibble} (hj : j ≤ s.reqLen) :
    { s with
      encIdx := j, crcAcc := crcFold crcInitial (s.reqBuf.toList.take j.toNat)
      encState := if j = s.reqLen then .chk else .payload }.Inv := by
  have hd : s.decState = .idle := h.decState_idle (by rw [hx]; nofun)
  obtain ⟨-, -, htxn, hres⟩ := h
  refine ⟨?_, by simp [State.decoderInv, hx, hd], htxn, hres⟩
  by_cases hjn : j = s.reqLen
  · simp only [if_pos hjn]
    exact ⟨iff_of_true hx nofun, nofun, nofun, fun _ => by rw [hjn]; rfl⟩
  · have hlt : j < s.reqLen := by bv_omega
    simp only [if_neg hjn]
    exact ⟨iff_of_true hx nofun, fun _ => hlt, fun _ => by rw [State.request, take_take_of_lt hlt], nofun⟩

/-- The last trailer byte is out: the decoder hunts (R193). -/
theorem State.Inv.sent {s : State} (h : s.Inv) (hx : s.txnState = .send) :
    { s with encState := .idle, txnState := .await, decState := .hunt }.Inv := by
  have hne : s.txnState ≠ .idle := by rw [hx]; nofun
  obtain ⟨-, -, ⟨hattempt, hsess, hphase, -, htag⟩, hres⟩ := h
  exact ⟨⟨iff_of_false nofun (not_not.mpr rfl), nofun, nofun, nofun⟩,
    ⟨iff_of_true rfl nofun, nofun, nofun, fun h => h.elim nofun nofun⟩,
    ⟨fun _ => hattempt hne, fun _ => hsess hne, fun _ => hphase hne, nofun, htag⟩, hres⟩

theorem State.Inv.encAdvance {s : State} (h : s.Inv) {b : Byte} (hb : s.encByte = some b) : (s.encAdvance b).Inv := by
  have hne : s.encState ≠ .idle := by
    intro he
    rw [State.encByte, he] at hb
    exact nomatch hb
  have hx := h.txnState_send hne
  unfold State.encAdvance
  cases he : s.encState <;> simp only
  case idle => exact absurd he hne
  case start => exact h.sending hx nofun nofun nofun
  case len =>
    have hfirst := h.sendingAt hx (j := 0) (Nat.zero_le _)
    simpa [crcFold_nil, eq_comm (a := 0#4) (b := s.reqLen)] using hfirst
  case payload =>
    have ⟨⟨_, hidx, hcov, _⟩, _⟩ := h
    have hlt : s.encIdx < s.reqLen := hidx he
    have hacc : s.crcAcc = crcFold crcInitial (s.reqBuf.toList.take s.encIdx.toNat) := by
      rw [hcov he, State.request, take_take_of_lt hlt]
    have hbyte : s.reqBuf.toList[s.encIdx.toNat]? = some b := by
      simpa [State.encByte, he] using hb
    obtain ⟨hsucc, hle⟩ := nibble_succ hlt
    have hnext := h.sendingAt hx hle
    rwa [hsucc, crcFold_take_succ hbyte, ← hacc] at hnext
  case chk => exact h.sending hx nofun nofun nofun
  case endMark => exact h.sending hx nofun nofun nofun
  case cr => exact h.sending hx nofun nofun nofun
  case lf => exact h.sent hx

/-! ### The decoder -/

/-- A decoder that is not at a payload byte nor behind the payload. -/
theorem State.Inv.seeking {s : State} (h : s.Inv) (hx : s.txnState = .await) {d : DecState} (hi : d ≠ .idle)
    (hp : d ≠ .payload) (hc : d ≠ .chk) (he : d ≠ .endMark) : { s with decState := d }.Inv := by
  obtain ⟨henc, -, htxn, hres⟩ := h
  exact ⟨henc, ⟨iff_of_true hx hi, fun h => absurd h hp, fun h => absurd h hp,
    fun h => h.elim (fun h => absurd h hc) (fun h => absurd h he)⟩, htxn, hres⟩

/-- The decoder with `j` of `n` payload bytes stored and covered: at the next one or, all being in, at the check
byte. -/
theorem State.Inv.receivingAt {s : State} (h : s.Inv) (hx : s.txnState = .await) {j n : Nibble} (hj : j ≤ n)
    (v : Buf) :
    { s with
      decLen := n, decIdx := j, rxBuf := v, crcAcc := crcFold crcInitial (v.toList.take j.toNat)
      decState := if j = n then .chk else .payload }.Inv := by
  have he : s.encState = .idle := h.encState_idle (by rw [hx]; nofun)
  obtain ⟨-, -, htxn, -, hcode, hstatus⟩ := h
  have htag : s.resTag ≠ .success := by
    obtain ⟨hattempt, -⟩ := htxn
    rw [(hattempt (by rw [hx]; nofun)).2]; nofun
  refine ⟨by simp [State.encoderInv, hx, he], ?_, htxn, fun h => absurd h htag, hcode, hstatus⟩
  by_cases hjn : j = n
  · simp only [if_pos hjn]
    exact ⟨iff_of_true hx nofun, nofun, nofun, fun _ => ⟨hjn, by rw [hjn]; rfl⟩⟩
  · have hlt : j < n := by bv_omega
    simp only [if_neg hjn]
    exact ⟨iff_of_true hx nofun, fun _ => hlt, fun _ => by rw [State.received, take_take_of_lt hlt],
      fun h => h.elim nofun nofun⟩

theorem State.Inv.beginFrame {s : State} (h : s.Inv) (hd : s.decState = .len) (n : Nibble) :
    (s.beginFrame n).Inv := by
  have hx := h.txnState_await (by rw [hd]; nofun)
  have hfirst := h.receivingAt hx (j := 0) (n := n) (Nat.zero_le _) s.rxBuf
  simpa [State.beginFrame, crcFold_nil, eq_comm (a := 0#4) (b := n)] using hfirst

theorem State.Inv.storeByte {s : State} (h : s.Inv) (hd : s.decState = .payload) (b : Byte) :
    (s.storeByte b).Inv := by
  have hx := h.txnState_await (by rw [hd]; nofun)
  have ⟨_, ⟨_, hidx, hcov, _⟩, _⟩ := h
  have hlt : s.decIdx < s.decLen := hidx hd
  have hacc : s.crcAcc = crcFold crcInitial (s.rxBuf.toList.take s.decIdx.toNat) := by
    rw [hcov hd, State.received, take_take_of_lt hlt]
  have h15 : s.decIdx.toNat < 15 := by bv_omega
  obtain ⟨hsucc, hle⟩ := nibble_succ hlt
  have hnext := h.receivingAt hx hle (s.rxBuf.setIfInBounds s.decIdx.toNat b)
  rwa [hsucc, crcFold_take_store _ b h15, ← hacc] at hnext

theorem State.Inv.checkByte {s : State} (h : s.Inv) (hd : s.decState = .chk) (b : Byte) :
    { s with decChk := b, decState := .endMark }.Inv := by
  have hx := h.txnState_await (by rw [hd]; nofun)
  obtain ⟨henc, ⟨-, -, -, hall⟩, htxn, hres⟩ := h
  exact ⟨henc, ⟨iff_of_true hx nofun, nofun, nofun, fun _ => hall (.inl hd)⟩, htxn, hres⟩

/-- What the block does with an answer keeps the invariant, the call being over. -/
theorem Reaction.inv {s t : State} (hr : Reaction s t) (h : s.Inv) (hw : s.waiting = false) : t.Inv := by
  cases hr with
  | fault => exact h.transportError
  | failed hd hc => exact h.failAttempt (h.txnState_await hd) hw hc
  | put hb => exact h.encAdvance hb
  | ignored => exact h
  | started hd => exact h.seeking (h.txnState_await (by rw [hd]; nofun)) nofun nofun nofun nofun
  | length n hd => exact h.beginFrame hd n
  | stored b hd => exact h.storeByte hd b
  | checked b hd => exact h.checkByte hd b
  | ended hd hl => exact h.succeed hd hw hl

/-! ### The host's operations -/

/-- The end of a `COMMAND` keeps the invariant (R209). -/
theorem State.Inv.cmdPhase_none {s : State} (h : s.Inv) : { s with cmdPhase := .none }.Inv := by
  obtain ⟨henc, hdec, ⟨hattempt, hsess, -, hidle, -⟩, hres⟩ := h
  exact ⟨henc, hdec, ⟨hattempt, hsess, nofun, fun hx => ⟨nofun, (hidle hx).2⟩, nofun⟩, hres⟩

/-- Admission from the Session test on, at any place of R209's program: a first attempt, or a fatal result. -/
theorem State.Inv.runExecute {s : State} (h : s.Inv) (hx : s.txnState = .idle) {c : CmdPhase} (hc : c ≠ .replyDue)
    (op : Byte) (k : RplKind) (p : List Byte) :
    ({ s with curOp := op, rplKind := k, cmdPhase := c }.runExecute p).Inv := by
  have he : s.encState = .idle := h.encState_idle (by rw [hx]; nofun)
  have hd : s.decState = .idle := h.decState_idle (by rw [hx]; nofun)
  obtain ⟨-, -, ⟨-, -, -, hidle, -⟩, -, -, hstatus⟩ := h
  rcases State.runExecute_cases { s with curOp := op, rplKind := k, cmdPhase := c } p with ⟨-, hr⟩ | ⟨-, hr⟩ <;>
    rw [hr]
  · exact ⟨⟨iff_of_true rfl nofun, nofun, nofun, nofun⟩, by simp [State.decoderInv, hd],
      ⟨fun _ => ⟨Nat.le_refl 1, rfl⟩, fun _ => .inl rfl, fun _ => hc, nofun, fun h => absurd h hc⟩,
      nofun, Nat.zero_le 7, hstatus⟩
  · exact State.finish_inv hx he hd (hidle hx).2 nofun ⟨nofun, Nat.le_refl 7, hstatus⟩

theorem State.Inv.command {s : State} (h : s.Inv) (p : List Byte) : (s.command p).Inv := by
  rcases s.command_cases p with ⟨-, hc⟩ | ⟨hx, hc⟩ <;> rw [hc]
  · exact h
  · exact h.runExecute hx (c := .running) nofun _ _ p

theorem State.Inv.execute {s : State} (h : s.Inv) (p : List Byte) : (s.execute p).Inv := by
  rcases s.execute_cases p with ⟨-, he⟩ | ⟨-, -, he⟩ | ⟨hx, -, he⟩ <;> rw [he]
  · exact h
  · exact h
  · exact h.runExecute hx (c := .none) nofun s.curOp s.rplKind p

theorem State.Inv.violate {s : State} (h : s.Inv) : s.violate.Inv := by
  obtain ⟨henc, hdec, htxn, hsucc, -, hstatus⟩ := h.cmdPhase_none
  exact ⟨henc, hdec, htxn, hsucc, Nat.le_succ 6, hstatus⟩

theorem State.Inv.status {s : State} (h : s.Inv) {n : Nibble} (hn : n.toNat ≤ 9) :
    { s with rplStatus := n, rplKind := .status, cmdPhase := .none }.Inv := by
  obtain ⟨henc, hdec, htxn, hsucc, hcode, -⟩ := h.cmdPhase_none
  exact ⟨henc, hdec, htxn, hsucc, hcode, hn⟩

theorem State.Inv.waits {s : State} (h : s.Inv) (hx : s.txnState ≠ .idle) : { s with waiting := true }.Inv := by
  obtain ⟨henc, hdec, ⟨hattempt, hsess, hphase, -, htag⟩, hres⟩ := h
  exact ⟨henc, hdec, ⟨hattempt, hsess, hphase, fun h => absurd h hx, htag⟩, hres⟩

theorem State.Inv.afterCall {s : State} (h : s.Inv) (m : Streams) : (s.afterCall m).Inv := by
  obtain ⟨henc, hdec, ⟨hattempt, hsess, hphase, hidle, htag⟩, hres⟩ := h
  exact ⟨henc, hdec, ⟨hattempt, hsess, hphase, fun hx => ⟨(hidle hx).1, rfl⟩, htag⟩, hres⟩

theorem State.Inv.sessionClose {s : State} (h : s.Inv) : s.sessionClose.Inv := by
  obtain ⟨henc, hdec, ⟨hattempt, -, hphase, hidle, htag⟩, hres⟩ := h
  obtain ⟨cs, hs⟩ := s.sessionClose_eq
  rw [hs]
  exact ⟨henc, hdec, ⟨hattempt, fun _ => .inr rfl, hphase, hidle, htag⟩, hres⟩

theorem State.Inv.sessionOpen {s t : State} (hs : s.Inv) {d : List Byte} {b : Nat} (h : s.sessionOpen d b = some t) :
    t.Inv := by
  have ⟨henc, hdec, ⟨_, _, _, hidle, htag⟩, hsucc, hcode, hstatus⟩ := hs
  rcases State.sessionOpen_cases h with ⟨c, rfl⟩ | ⟨hx, ss, ib, la, cs, rfl | rfl⟩
  · exact hs
  · exact ⟨henc, hdec, ⟨fun h => absurd hx h, fun h => absurd hx h, fun h => absurd hx h, hidle, htag⟩, hsucc,
      Nat.le_refl 7, hstatus⟩
  · exact ⟨henc, hdec, ⟨fun h => absurd hx h, fun h => absurd hx h, fun h => absurd hx h, hidle, htag⟩, hsucc, hcode,
      hstatus⟩

/-- Every effect of a step keeps the invariant. -/
theorem Effect.inv {es : List HostEvent} {s t : State} (he : Effect es s t) (h : s.Inv) : t.Inv := by
  cases he with
  | still => exact h
  | reset => exact invariantHoldsAfterReset
  | waits hx => exact h.waits hx
  | reacts m hr => exact hr.inv (h.afterCall m) rfl
  | command p => exact h.command p
  | execute p => exact h.execute p
  | tooLong => exact h
  | alive => exact h.cmdPhase_none
  | status n hn => exact h.status hn
  | state => exact h.cmdPhase_none
  | violation => exact h.violate
  | unsuccessful r => exact h.cmdPhase_none
  | opens _ ho => exact h.sessionOpen ho
  | closes => exact h.sessionClose
  | arrive => exact h
  | keep => exact h

/-- Settles O20: each effect a step can have keeps the invariant, and none writes the parameters. -/
theorem stepKeepsTheInvariant : Obligations.StepKeepsTheInvariant := by
  intro s t hs h
  obtain ⟨later, he⟩ := step_effect h
  exact ⟨he.inv hs, step_params h⟩

end Sys2Proof.Machine
end

section
/-! PROOF. Which instruction a step runs (R38, R73, R209), which events it refuses (R103, R107, U13), what an admitted
request leaves in `req_buf` (R22, R192), and reset (R360 to R363). -/

namespace Sys2Proof.Machine

open Host (Outcome)

/-! ### The host's event -/

/-- With no reply due, a step is what the host's next event asks for. -/
theorem step_event {s : State} {e : HostEvent} {rest : List HostEvent} (hc : s.cmdPhase ≠ .replyDue)
    (hs : s.schedule = e :: rest) : step s = (fetchEvent e rest s).outcome := by
  rw [step_eq_outcome]
  rcases fetch_cases s with ⟨rest', hr, hf⟩ | ⟨hd, -⟩ | ⟨-, h0, -⟩ | ⟨-, e', rest', -, he, hf⟩
  · rw [hf]
    cases hs.symm.trans hr
    rfl
  · exact absurd hd hc
  · exact absurd (h0.symm.trans hs) nofun
  · rw [hf]
    cases hs.symm.trans he
    rfl

/-- Reset is seen at once (R320 (d)). -/
theorem step_reset {s : State} {rest : List HostEvent} (hs : s.schedule = .reset :: rest) :
    step s = .next { s with schedule := rest }.hardReset := by
  simp [step, fetch, hs, fetchEvent]

/-- Settles O48: the registers are `State.reset`'s, the rest is the old state's. -/
theorem resetEventFromAnyState : Obligations.ResetEventFromAnyState := by
  intro s rest hs
  refine ⟨_, step_reset hs, ?_⟩
  simp [State.reset]

/-! ### The instruction a step runs -/

/-- The host's calls that run: of a raw form, and of a typed command of its opcode's shape (R38, R103). -/
theorem fetchCall_run {i : Instr} {s : State}
    (h : portOf i = .typed ∧ i.ofShape s.params = true ∨ portOf i = .raw) : fetchCall i s = .run i s := by
  rcases h with ⟨hp, hsh⟩ | hp <;> simp [fetchCall, *]

theorem fetchCommand_of_ofShape {c : Command} {s : State} (h : c.ofShape s.params = true) :
    fetchCommand c s = runCommand c s := by
  simp [fetchCommand, h]

theorem fetchWords_typed {bs : List Byte} {c : Command} {s : State} (h : decodeCommand s.params bs = .ok c) :
    fetchWords .typed bs s = runCommand c s := by
  simp [fetchWords, h]

/-- At the default parameters every row is of its opcode's shape (R103). -/
theorem ofShape_default (i : Instr) : i.ofShape defaultParams = true := by
  cases i <;> rfl

/-- Settles O23: by the event, the fetch of its words, call or command. -/
theorem stepRunsTheDecodedInstruction : Obligations.StepRunsTheDecodedInstruction := by
  refine ⟨fun s rest p bs i hs hc hp hd => ?_, fun s rest i hs hc hi => ?_, fun s rest c hc h => ?_,
    ofShape_default⟩
  · have hport : ∀ c, p ≠ .reply c := by rintro c rfl; simp at hp
    rw [step_event hc hs]
    exact congrArg Fetched.outcome (fetchWords_ok (s := { s with schedule := rest }) hport hd)
  · rw [step_event hc hs]
    exact congrArg Fetched.outcome (fetchCall_run (s := { s with schedule := rest }) hi)
  · have hstep : step s = (runCommand c { s with schedule := rest }).outcome := by
      rcases h with ⟨hs, hsh⟩ | ⟨bs, hs, hd⟩ <;> rw [step_event hc hs]
      · exact congrArg Fetched.outcome (fetchCommand_of_ofShape (s := { s with schedule := rest }) hsh)
      · exact congrArg Fetched.outcome (fetchWords_typed (s := { s with schedule := rest }) hd)
    rw [runCommand_outcome] at hstep
    refine ⟨fun i hi => ?_, hstep⟩
    rw [hstep, exec_typed i _ (portOf_of_commandOf hi), encode_of_commandOf hi]

/-! ### The events a step refuses -/

theorem State.decByte_ne_refused (s : State) (b : Byte) (r : Refusal) : s.decByte b ≠ .refused r := by
  unfold State.decByte
  cases s.decState
  case len => simp only; split <;> nofun
  case payload => simp only; split <;> nofun
  all_goals nofun

theorem State.awaitAnswer_ne_refused (s : State) (a : RxAnswer) (r : Refusal) : s.awaitAnswer a ≠ .refused r := by
  cases a with
  | byte b => exact s.decByte_ne_refused b r
  | timeout => nofun
  | fault => nofun

theorem State.sendStep_ne_refused (s : State) (r : Refusal) : s.sendStep ≠ .refused r := by
  rcases s.sendStep_cases with ⟨-, h⟩ | ⟨-, -, h⟩ | ⟨b, -, ⟨-, h⟩ | ⟨rest, -, h⟩ | ⟨rest, -, h⟩⟩ <;>
    rw [h] <;> nofun

theorem State.awaitStep_ne_refused (s : State) (r : Refusal) : s.awaitStep ≠ .refused r := by
  rcases s.awaitStep_cases with ⟨-, h⟩ | ⟨-, -, h⟩ | ⟨-, a, ib, ra, -, -, h⟩ <;> rw [h]
  · nofun
  · nofun
  · exact State.awaitAnswer_ne_refused _ a r

theorem State.blockStep_ne_refused (s : State) (r : Refusal) : s.blockStep ≠ .refused r := by
  rcases s.blockStep_cases with ⟨-, h⟩ | ⟨-, -, -, h⟩ | ⟨-, -, h⟩ | ⟨-, -, h⟩ <;> rw [h]
  · nofun
  · nofun
  · exact s.sendStep_ne_refused r
  · exact s.awaitStep_ne_refused r

theorem State.answer_ne_refused (s : State) (a : TransportAnswer) (r : Refusal) : s.answer a ≠ .refused r := by
  rcases s.answer_cases a with ⟨-, -, h⟩ | ⟨-, x, -, h⟩ | ⟨-, -, h⟩ | ⟨-, -, h⟩ <;> rw [h]
  · nofun
  · exact State.sendStep_ne_refused _ r
  · nofun
  · nofun

theorem exec_ne_refused (i : Instr) (s : State) (r : Refusal) : exec i s ≠ .refused r := by
  obtain ⟨t, h⟩ := exec_next i s
  rw [h]; nofun

theorem runCommand_ne_refused (c : Command) (s : State) (r : Refusal) : (runCommand c s).outcome ≠ .refused r := by
  rw [runCommand_outcome]; nofun

theorem fetchReply_ne_refused (s : State) (r : Refusal) : (fetchReply s).outcome ≠ .refused r := by
  unfold fetchReply
  split
  · split
    · exact exec_ne_refused _ s r
    · nofun
  · split
    · exact exec_ne_refused (.replyAlive []) s r
    · nofun
  · nofun
  · nofun

theorem ofShape_iff {P : Params} {c : Command} : c.ofShape P = true ↔ shapeOf P c.op = some c.operands.shape := by
  simp [Command.ofShape]

/-- A command is refused only if it is not of its opcode's shape (R103). -/
theorem fetchCommand_refused {c : Command} {s : State} {r : Refusal} (h : (fetchCommand c s).outcome = .refused r) :
    r = .notOfShape ∧ shapeOf s.params c.op ≠ some c.operands.shape := by
  unfold fetchCommand at h
  split at h
  · exact absurd h (runCommand_ne_refused _ s r)
  next hsh =>
    cases h
    exact ⟨rfl, mt ofShape_iff.mpr hsh⟩

/-- A call is refused only of a typed command not of its opcode's shape, or of what is no operation of the host (R103,
R38). -/
theorem fetchCall_refused {i : Instr} {s : State} {r : Refusal} (h : (fetchCall i s).outcome = .refused r) :
    (r = .notOfShape ∧ ∃ c, commandOf i = some c ∧ shapeOf s.params c.op ≠ some c.operands.shape) ∨
    (r = .notHostOperation ∧ portOf i ≠ .typed ∧ portOf i ≠ .raw) := by
  unfold fetchCall at h
  split at h
  next hp =>
    split at h
    · exact absurd h (exec_ne_refused _ s r)
    next hsh =>
      cases h
      obtain ⟨c, hc⟩ := commandOf_of_typed hp
      rw [ofShape_of_commandOf hc] at hsh
      exact .inl ⟨rfl, c, hc, mt ofShape_iff.mpr hsh⟩
  next => exact absurd h (exec_ne_refused _ s r)
  next hp => cases h; exact .inr ⟨rfl, by rw [hp]; nofun, by rw [hp]; nofun⟩
  next hp => cases h; exact .inr ⟨rfl, by rw [hp]; nofun, by rw [hp]; nofun⟩

/-- Words are refused only at the typed port, if no typed command has them, and at a reply's (U13). -/
theorem fetchWords_refused {p : Port} {bs : List Byte} {s : State} {r : Refusal}
    (h : (fetchWords p bs s).outcome = .refused r) :
    (p = .typed ∧ ∃ rej, decodeCommand s.params bs = .error rej ∧ r = .undecodable rej) ∨
    (r = .notHostOperation ∧ ∃ c, p = .reply c) := by
  cases p <;> simp only [fetchWords] at h
  case typed =>
    split at h
    · exact absurd h (runCommand_ne_refused _ s r)
    next rej hd => cases h; exact .inl ⟨rfl, rej, hd, rfl⟩
  case raw => exact absurd h (exec_ne_refused (.raw bs) s r)
  case wire =>
    split at h
    · exact absurd h (exec_ne_refused _ s r)
    · cases h
  case reply c => cases h; exact .inr ⟨rfl, c, rfl⟩

/-- Settles O22: of all the fetch does, only the three fetches from outside refuse. -/
theorem onlyForeignEventsAreRefused : Obligations.OnlyForeignEventsAreRefused := by
  intro s r h
  rw [step_eq_outcome] at h
  rcases fetch_cases s with ⟨rest, -, hf⟩ | ⟨-, -, hf⟩ | ⟨-, -, hf⟩ | ⟨-, e, rest, -, hs, hf⟩ <;> rw [hf] at h
  · cases h
  · exact absurd h (fetchReply_ne_refused s r)
  · exact absurd h (s.blockStep_ne_refused r)
  refine ⟨e, rest, hs, ?_⟩
  cases e with
  | pass => exact absurd h (State.blockStep_ne_refused _ r)
  | reset => cases h
  | sessionOpen d b => simp only [fetchEvent] at h; split at h <;> cases h
  | sessionClose => cases h
  | answer a => exact absurd h (State.answer_ne_refused _ a r)
  | command c =>
    obtain ⟨hr, hsh⟩ := fetchCommand_refused (s := { s with schedule := rest }) h
    exact .inr (.inl ⟨hr, .inl ⟨c, rfl, hsh⟩⟩)
  | call i =>
    rcases fetchCall_refused (s := { s with schedule := rest }) h with ⟨hr, c, hc, hsh⟩ | ⟨hr, ht, hraw⟩
    · exact .inr (.inl ⟨hr, .inr ⟨i, c, rfl, hc, hsh⟩⟩)
    · exact .inr (.inr ⟨hr, .inr ⟨i, rfl, ht, hraw⟩⟩)
  | words p bs =>
    rcases fetchWords_refused (s := { s with schedule := rest }) h with ⟨rfl, rej, hd, hr⟩ | ⟨hr, c, rfl⟩
    · exact .inl ⟨bs, rej, rfl, hd, hr⟩
    · exact .inr (.inr ⟨hr, .inl ⟨c, bs, rfl⟩⟩)

/-! ### The latch -/

theorem State.usable_of_admits {s : State} (h : s.admits) : s.usable = true := by
  obtain ⟨-, hf, hs | hs⟩ := h <;> simp [State.usable, hf, hs]

/-- An admitted `EXECUTE` is latched and its first attempt started (R191, R192, R193). -/
theorem State.execute_of_admits {s : State} (h : s.admits) {p : List Byte} (hp : p.length ≤ 15) :
    s.execute p = ({ s with cmdPhase := .none }.latch p).startAttempt := by
  have hu : { s with cmdPhase := .none }.usable = true := State.usable_of_admits h
  rcases s.execute_cases p with ⟨hx, -⟩ | ⟨-, hlong, -⟩ | ⟨-, -, he⟩
  · exact absurd h.1 hx
  · omega
  · rw [he, State.runExecute, if_pos hu]

/-- Settles O28: the latch writes the payload from index 0 on. -/
theorem latchStoresTheRequest : Obligations.LatchStoresTheRequest := by
  intro s p h hp
  refine ⟨_, congrArg Outcome.next (State.execute_of_admits h hp), State.latch_request _ hp, ofNat4_toNat hp,
    fun k hk => ?_⟩
  rw [State.startAttempt_reqBuf, State.latch_reqBuf, writeBytes_getElem?, if_neg (by omega)]

end Sys2Proof.Machine
end

section
/-! PROOF. Half duplex (R70, R71), from the moves of a step: `HalfDuplex`. -/

namespace Sys2Proof.Machine

/-- Outside `T_SEND` no byte is put and no answer to `TxPut` taken (R70). -/
theorem StreamMove.keeps_tx {es : List HostEvent} {x : TxnState} {a m : Streams} (h : StreamMove es x a m)
    (hx : x ≠ .send) : m.tx = a.tx ∧ a.put <+: m.put := by
  cases h with
  | block h =>
    cases h with
    | putByte _ _ hsend | putFault _ hsend => exact absurd hsend hx
    | still | takeByte | takeAnswer => exact ⟨rfl, List.prefix_rfl⟩
  | putNow _ _ hsend => exact absurd hsend hx
  | keep r => exact ⟨rfl, List.prefix_append ..⟩
  | arrive | opened => exact ⟨rfl, List.prefix_rfl⟩

/-- Outside `T_AWAIT` no answer to `RxTake` is taken, and no byte of the input buffer, which only a `SESSION_OPEN` empties
(R70, R71). -/
theorem StreamMove.keeps_rx {es : List HostEvent} {x : TxnState} {a m : Streams} (h : StreamMove es x a m)
    (hx : x ≠ .await) :
    a.rx <+: m.rx ∧ (a.input <+: m.input ∨ (m.input = [] ∧ ∃ d b rest, es = .sessionOpen d b :: rest)) := by
  cases h with
  | block h =>
    cases h with
    | takeByte _ _ hawait | takeAnswer _ _ hawait => exact absurd hawait hx
    | still | putByte | putFault => exact ⟨List.prefix_rfl, .inl List.prefix_rfl⟩
  | arrive bs => exact ⟨List.prefix_rfl, .inl (List.prefix_append ..)⟩
  | keep r => exact ⟨List.prefix_append .., .inl List.prefix_rfl⟩
  | putNow => exact ⟨List.prefix_rfl, .inl List.prefix_rfl⟩
  | opened d b rest ib n he hib =>
    rcases hib with rfl | rfl
    · exact ⟨List.prefix_rfl, .inl List.prefix_rfl⟩
    · exact ⟨List.prefix_rfl, .inr ⟨rfl, d, b, rest, he⟩⟩

/-- Settles O49: of the moves of `StreamMove` those that put need `T_SEND`, those that take need `T_AWAIT`. -/
theorem halfDuplex : Obligations.HalfDuplex :=
  fun _ _ h => ⟨(step_move h).keeps_tx, (step_move h).keeps_rx⟩

end Sys2Proof.Machine
end

section
/-! PROOF. The states whose step faults (R60; log 18), and that none meets the invariant: `NoFaultUnderTheInvariant`. -/

namespace Sys2Proof.Machine

/-- The encoder stands behind the end of `req_buf`, or the decoder behind that of `rx_buf`. -/
def State.pastBuffer (s : State) : Prop :=
  (s.encState = .payload ∧ s.encIdx = 15) ∨ (s.decState = .payload ∧ s.decIdx = 15)

/-- An index below a length of 4 bits is inside the buffer (R60, R152, R157). -/
theorem State.Inv.not_pastBuffer {s : State} (h : s.Inv) : ¬ s.pastBuffer := by
  obtain ⟨⟨-, henc, -⟩, ⟨-, hdec, -⟩, -⟩ := h
  rintro (⟨hp, h15⟩ | ⟨hp, h15⟩)
  · have hlt := henc hp
    bv_omega
  · have hlt := hdec hp
    bv_omega

/-! ### The fetches that never fault -/

/-- A reply's meaning leaves the transaction's registers alone (R281 to R283, R286). -/
theorem exec_reply {i : Instr} {c : ReplyClass} (hi : portOf i = .reply c) (s : State) :
    ∃ t, exec i s = .next t ∧ t.txnState = s.txnState ∧ t.resTag = s.resTag ∧ t.fatal = s.fatal := by
  cases i
  case replyAlive => exact ⟨_, rfl, rfl, rfl, rfl⟩
  case replyStatus =>
    simp only [exec, execReplyStatus]
    split <;> exact ⟨_, rfl, rfl, rfl, rfl⟩
  case replyState => exact ⟨_, rfl, rfl, rfl, rfl⟩
  all_goals exact nomatch hi

/-- What the words of a reply decode to is a reply. -/
theorem portOf_of_decode_reply {P : Params} {c : ReplyClass} {bs : List Byte} {i : Instr}
    (h : decode P (.reply c) bs = .ok i) : portOf i = .reply c := by
  cases c <;> simp only [decode] at h
  case alive => cases h; rfl
  case status =>
    unfold decodeStatusReply at h
    split at h
    · split at h <;> cases h
      rfl
    · cases h
  case state =>
    unfold decodeStateReply at h
    split at h
    · split at h <;> cases h
      rfl
    · cases h

/-- `REPLY_DECODE` ends in a next state and leaves the transaction's registers alone (R280). -/
theorem fetchReply_next (s : State) :
    ∃ t, (fetchReply s).outcome = .next t ∧ t.txnState = s.txnState ∧ t.resTag = s.resTag ∧ t.fatal = s.fatal := by
  unfold fetchReply
  split
  · split
    next hd => exact exec_reply (portOf_of_decode_reply hd) s
    next => exact ⟨_, rfl, rfl, rfl, rfl⟩
  · split
    · exact exec_reply (i := .replyAlive []) rfl s
    · exact ⟨_, rfl, rfl, rfl, rfl⟩
  · exact ⟨_, rfl, rfl, rfl, rfl⟩
  · exact ⟨_, rfl, rfl, rfl, rfl⟩

theorem exec_ne_fault (i : Instr) (s : State) (f : Fault) : exec i s ≠ .fault f := by
  obtain ⟨t, h⟩ := exec_next i s
  rw [h]; nofun

theorem fetchReply_ne_fault (s : State) (f : Fault) : (fetchReply s).outcome ≠ .fault f := by
  obtain ⟨t, h, -⟩ := fetchReply_next s
  rw [h]; nofun

theorem runCommand_ne_fault (c : Command) (s : State) (f : Fault) : (runCommand c s).outcome ≠ .fault f := by
  rw [runCommand_outcome]; nofun

theorem fetchCommand_ne_fault (c : Command) (s : State) (f : Fault) : (fetchCommand c s).outcome ≠ .fault f := by
  unfold fetchCommand
  split
  · exact runCommand_ne_fault c s f
  · nofun

theorem fetchCall_ne_fault (i : Instr) (s : State) (f : Fault) : (fetchCall i s).outcome ≠ .fault f := by
  unfold fetchCall
  split
  · split
    · exact exec_ne_fault i s f
    · nofun
  · exact exec_ne_fault i s f
  · nofun
  · nofun

theorem fetchWords_ne_fault (p : Port) (bs : List Byte) (s : State) (f : Fault) :
    (fetchWords p bs s).outcome ≠ .fault f := by
  cases p <;> simp only [fetchWords]
  case typed =>
    split
    · exact runCommand_ne_fault _ s f
    · nofun
  case raw => exact exec_ne_fault (.raw bs) s f
  case wire =>
    split
    · exact exec_ne_fault _ s f
    · nofun
  case reply => nofun

/-! ### The faults of a step -/

/-- A byte of the payload behind index 14 has no place in `rx_buf` (R157). -/
theorem State.decByte_fault {s : State} {b : Byte} {f : Fault} (h : s.decByte b = .fault f) : s.pastBuffer := by
  unfold State.decByte at h
  cases hd : s.decState <;> simp only [hd] at h
  case len => split at h <;> cases h
  case payload =>
    split at h
    · cases h
    · exact .inr ⟨hd, by bv_omega⟩
  all_goals cases h

theorem State.awaitAnswer_fault {s : State} {a : RxAnswer} {f : Fault} (h : s.awaitAnswer a = .fault f) :
    s.pastBuffer := by
  cases a with
  | byte b => exact State.decByte_fault h
  | timeout => cases h
  | fault => cases h

theorem State.sendStep_fault {s : State} {f : Fault} (h : s.sendStep = .fault f) : s.pastBuffer := by
  rcases s.sendStep_cases with ⟨-, hs⟩ | ⟨hp, h15, -⟩ | ⟨b, -, ⟨-, hs⟩ | ⟨rest, -, hs⟩ | ⟨rest, -, hs⟩⟩
  case inr.inl => exact .inl ⟨hp, h15⟩
  all_goals rw [hs] at h; cases h

theorem State.awaitStep_fault {s : State} {f : Fault} (h : s.awaitStep = .fault f) : s.pastBuffer := by
  rcases s.awaitStep_cases with ⟨-, hs⟩ | ⟨-, -, hs⟩ | ⟨-, a, ib, ra, -, -, hs⟩ <;> rw [hs] at h
  · cases h
  · cases h
  · have hpast := State.awaitAnswer_fault h
    exact hpast

theorem State.blockStep_fault {s : State} {f : Fault} (h : s.blockStep = .fault f) : s.pastBuffer := by
  rcases s.blockStep_cases with ⟨-, hs⟩ | ⟨-, -, -, hs⟩ | ⟨-, -, hs⟩ | ⟨-, -, hs⟩ <;> rw [hs] at h
  · cases h
  · cases h
  · exact State.sendStep_fault h
  · exact State.awaitStep_fault h

theorem State.answer_fault {s : State} {a : TransportAnswer} {f : Fault} (h : s.answer a = .fault f) :
    s.pastBuffer := by
  rcases s.answer_cases a with ⟨-, -, hs⟩ | ⟨-, r, -, hs⟩ | ⟨-, -, hs⟩ | ⟨-, -, hs⟩ <;> rw [hs] at h
  · cases h
  · have hpast := State.sendStep_fault h
    exact hpast
  · cases h
  · cases h

/-- Only a step of the block and an answer to its call can fault, and only with an index of 15. -/
theorem step_fault {s : State} {f : Fault} (h : step s = .fault f) : s.pastBuffer := by
  rw [step_eq_outcome] at h
  rcases fetch_cases s with ⟨rest, -, hf⟩ | ⟨-, -, hf⟩ | ⟨-, -, hf⟩ | ⟨-, e, rest, -, -, hf⟩ <;> rw [hf] at h
  · cases h
  · exact absurd h (fetchReply_ne_fault s f)
  · exact State.blockStep_fault h
  cases e with
  | pass => exact State.blockStep_fault (s := { s with schedule := rest }) h
  | reset => cases h
  | sessionOpen d b => simp only [fetchEvent] at h; split at h <;> cases h
  | sessionClose => cases h
  | call i => exact absurd h (fetchCall_ne_fault i _ f)
  | command c => exact absurd h (fetchCommand_ne_fault c _ f)
  | words p bs => exact absurd h (fetchWords_ne_fault p bs _ f)
  | answer a => exact State.answer_fault (s := { s with schedule := rest }) h

/-- Settles O21: a fault needs an index of 15, which the invariant keeps below a length of 4 bits. -/
theorem noFaultUnderTheInvariant : Obligations.NoFaultUnderTheInvariant :=
  fun _ _ hs h => hs.not_pastBuffer (step_fault h)

end Sys2Proof.Machine
end

section
/-! PROOF. The branches of `SESSION_OPEN` (R206, R71): `SessionOpenCases`. -/

namespace Sys2Proof.Machine

/-- A `SESSION_OPEN` that has its answers is one step (log 8). -/
theorem step_sessionOpen {s t : State} {d : List Byte} {b : Nat} {rest : List HostEvent} (hc : s.cmdPhase ≠ .replyDue)
    (hs : s.schedule = .sessionOpen d b :: rest) (h : { s with schedule := rest }.sessionOpen d b = some t) :
    step s = .next t := by
  rw [step_event hc hs]
  simp only [fetchEvent, h, Fetched.outcome]

/-- On a Session that is not closed the operation is refused (R206 step 2). -/
theorem State.sessionOpen_of_not_closed {s : State} (hx : s.txnState = .idle) (hc : s.sessState ≠ .closed)
    (d : List Byte) (b : Nat) : s.sessionOpen d b = some (s.give (.refused .badSessionOp)) := by
  simp [State.sessionOpen, State.busy, hx, hc]

/-- On a closed Session, the block idle, the line is opened (R206 step 3). -/
theorem State.sessionOpen_of_closed {s : State} (hx : s.txnState = .idle) (hc : s.sessState = .closed)
    (d : List Byte) (b : Nat) : s.sessionOpen d b = s.openLine d b := by
  simp [State.sessionOpen, State.busy, hx, hc]

/-- `open` answered `Fault` (R206 step 3). -/
theorem State.openLine_fault {s : State} {la : List LineAnswer} (h : s.lineAnswers = .fault :: la) (d : List Byte)
    (b : Nat) : s.openLine d b = some ({ s with lineAnswers := la }.ask [.openLine d b]).openFailed := by
  simp only [State.openLine, h]

/-- `open` answered `Ok`, and both buffer resets answered (R206 step 4). -/
theorem State.openLine_answered {s : State} {r1 r2 : LineAnswer} {la : List LineAnswer}
    (h : s.lineAnswers = .ok :: r1 :: r2 :: la) (d : List Byte) (b : Nat) :
    s.openLine d b = some (({ s with lineAnswers := la }.ask [.openLine d b]).openAnswered r1 r2) := by
  simp only [State.openLine, h]

/-- A buffer reset answered `Fault` leaves the Session opened and faulted (R206 step 5). -/
theorem State.openAnswered_fault (s : State) {r1 r2 : LineAnswer} (h : r1 = .fault ∨ r2 = .fault) :
    s.openAnswered r1 r2 =
      { s with
        sessState := .opened, fatal := true, lastErr := .transport,
        inputBuffer := (s.openAnswered r1 r2).inputBuffer,
        calls := s.calls ++ [.resetInputBuffer, .resetOutputBuffer],
        results := s.results ++ [.transportError] } := by
  unfold State.openAnswered
  rw [if_pos h]
  cases r1 <;> rfl

/-- Both answered `Ok`: the Session is cleared and the input buffer empty (R206 step 6, R71). -/
theorem State.openAnswered_ok (s : State) :
    s.openAnswered .ok .ok =
      { s with
        sessState := .cleared, fatal := false, inputBuffer := [],
        calls := s.calls ++ [.resetInputBuffer, .resetOutputBuffer], results := s.results ++ [.opened] } :=
  rfl

/-- Settles O47: each branch is the step of `SESSION_OPEN` with the answers it needs. -/
theorem sessionOpenCases : Obligations.SessionOpenCases := by
  intro s d b rest hs hc hx
  have openStep {t : State} (hsess : s.sessState = .closed) (h : { s with schedule := rest }.openLine d b = some t) :
      step s = .next t :=
    step_sessionOpen hc hs ((State.sessionOpen_of_closed (s := { s with schedule := rest }) hx hsess d b).trans h)
  refine ⟨fun hsess => ?_, fun la hsess hl => ?_, fun r1 r2 la hsess hl hr => ?_, fun la hsess hl => ?_⟩
  · exact step_sessionOpen hc hs (State.sessionOpen_of_not_closed (s := { s with schedule := rest }) hx hsess d b)
  · exact openStep hsess (State.openLine_fault (s := { s with schedule := rest }) hl d b)
  · refine ⟨_, openStep hsess (State.openLine_answered (s := { s with schedule := rest }) hl d b), ?_⟩
    rw [State.openAnswered_fault _ hr]
    simp
  · rw [openStep hsess (State.openLine_answered (s := { s with schedule := rest }) hl d b), State.openAnswered_ok]
    simp

end Sys2Proof.Machine
end

section
/-! PROOF. The unanswered call (R61, R62, R372), its answer (R320 (b)), and a `SESSION_CLOSE` during it (R200, R208):
`UnansweredCallWaits`. -/

namespace Sys2Proof.Machine

/-! ### The call in progress -/

theorem State.Inv.cmdPhase_ne_replyDue {s : State} (h : s.Inv) (hx : s.txnState ≠ .idle) : s.cmdPhase ≠ .replyDue := by
  obtain ⟨-, -, ⟨-, -, hphase, -⟩, -⟩ := h
  exact hphase hx

theorem State.Inv.encState_ne_idle {s : State} (h : s.Inv) (hx : s.txnState = .send) : s.encState ≠ .idle := by
  obtain ⟨⟨hsend, -⟩, -⟩ := h
  exact hsend.mp hx

theorem State.Inv.decState_ne_idle {s : State} (h : s.Inv) (hx : s.txnState = .await) : s.decState ≠ .idle := by
  obtain ⟨-, ⟨hawait, -⟩, -⟩ := h
  exact hawait.mp hx

/-- Only a block in a transaction waits (log 4). -/
theorem State.Inv.not_idle_of_waiting {s : State} (h : s.Inv) (hw : s.waiting = true) : s.txnState ≠ .idle := by
  obtain ⟨-, -, ⟨-, -, -, hidle, -⟩, -⟩ := h
  exact fun hx => Bool.false_ne_true ((hidle hx).2.symm.trans hw)

/-- While it sends, the encoder has a byte to offer (R152). -/
theorem State.Inv.encByte_some {s : State} (h : s.Inv) (hx : s.txnState = .send) : ∃ b, s.encByte = some b := by
  rcases s.sendStep_cases with ⟨he, -⟩ | ⟨hp, h15, -⟩ | ⟨b, hb, -⟩
  · exact absurd he (h.encState_ne_idle hx)
  · exact absurd (.inl ⟨hp, h15⟩) h.not_pastBuffer
  · exact ⟨b, hb⟩

theorem State.Inv.putting {s : State} (h : s.Inv) (hw : s.waiting = true) (hx : s.txnState = .send) :
    s.putting = true :=
  State.putting_iff.mpr ⟨hw, hx, h.encState_ne_idle hx⟩

theorem State.Inv.taking {s : State} (h : s.Inv) (hw : s.waiting = true) (hx : s.txnState = .await) :
    s.taking = true := by
  simp [State.taking, hw, hx, h.decState_ne_idle hx]

/-! ### No answer -/

/-- The block's next call has no answer, no close comes before it (R208), and nothing is scheduled. -/
def State.unanswered (s : State) : Prop :=
  s.schedule = [] ∧ (s.sessState ≠ .closed ∨ s.waiting = true) ∧
    ((s.txnState = .send ∧ s.txAnswers = []) ∨ (s.txnState = .await ∧ s.rxStream = []))

theorem State.unanswered.not_idle {s : State} (h : s.unanswered) : s.txnState ≠ .idle := by
  obtain ⟨-, -, ⟨hx, -⟩ | ⟨hx, -⟩⟩ := h <;> rw [hx] <;> nofun

theorem State.blockStep_send {s : State} (hx : s.txnState = .send) (h : s.sessState ≠ .closed ∨ s.waiting = true) :
    s.blockStep = s.sendStep := by
  rcases h with h | h <;> simp [State.blockStep, hx, h]

theorem State.blockStep_await {s : State} (hx : s.txnState = .await) (h : s.sessState ≠ .closed ∨ s.waiting = true) :
    s.blockStep = s.awaitStep := by
  rcases h with h | h <;> simp [State.blockStep, hx, h]

theorem State.sendStep_unanswered {s : State} {b : Byte} (he : s.encState ≠ .idle) (hb : s.encByte = some b)
    (ha : s.txAnswers = []) : s.sendStep = .next { s with waiting := true } := by
  simp only [State.sendStep, if_neg he, hb, State.txPut_none.mpr ha]

theorem State.awaitStep_unanswered {s : State} (hd : s.decState ≠ .idle) (hr : s.rxStream = []) :
    s.awaitStep = .next { s with waiting := true } := by
  simp only [State.awaitStep, if_neg hd, State.rxTake_none.mpr hr]

/-- The block makes the call, or has made it, and waits (R372). -/
theorem step_unanswered {s : State} (h : s.Inv) (hu : s.unanswered) : step s = .next { s with waiting := true } := by
  have hphase := h.cmdPhase_ne_replyDue hu.not_idle
  obtain ⟨hs, hopen, ⟨hx, ha⟩ | ⟨hx, hr⟩⟩ := hu
  · obtain ⟨b, hb⟩ := h.encByte_some hx
    rw [step_block hphase hs, State.blockStep_send hx hopen, State.sendStep_unanswered (h.encState_ne_idle hx) hb ha]
  · rw [step_block hphase hs, State.blockStep_await hx hopen, State.awaitStep_unanswered (h.decState_ne_idle hx) hr]

/-- It waits for ever: a step of the waiting block changes nothing. -/
theorem run_unanswered {s : State} (h : s.Inv) (hu : s.unanswered) (k : Nat) :
    run (k + 1) s = .next { s with waiting := true } := by
  induction k generalizing s with
  | zero => exact run_succ (step_unanswered h hu) 0
  | succ k ih =>
    rw [run_succ (step_unanswered h hu)]
    have hwaits : { s with waiting := true }.unanswered := ⟨hu.1, .inr rfl, hu.2.2⟩
    exact ih (h.waits hu.not_idle) hwaits

/-! ### The answer to the call in progress -/

/-- `Ok` puts the byte offered (R152, R320 (b)). -/
theorem State.answer_ok_of_putting {s : State} {b : Byte} (h : s.putting = true) (hb : s.encByte = some b) :
    s.answer (.txPut .ok) = .next ({ s with txStream := s.txStream ++ [b], waiting := false }.encAdvance b) := by
  obtain ⟨-, -, he⟩ := State.putting_iff.mp h
  have hb' : { s with txAnswers := .ok :: s.txAnswers }.encByte = some b := hb
  simp only [State.answer, h, if_true, State.sendStep, if_neg he, hb', State.txPut]

/-- `Fault` ends the transaction (R200). -/
theorem State.answer_fault_of_putting {s : State} {b : Byte} (h : s.putting = true) (hb : s.encByte = some b) :
    s.answer (.txPut .fault) = .next s.transportError := by
  obtain ⟨-, -, he⟩ := State.putting_iff.mp h
  have hb' : { s with txAnswers := .fault :: s.txAnswers }.encByte = some b := hb
  simp only [State.answer, h, if_true, State.sendStep, if_neg he, hb', State.txPut]
  rfl

/-- `Timeout` fails the attempt (R196). -/
theorem State.answer_timeout_of_taking {s : State} (h : s.taking = true) :
    s.answer .rxTimeout = .next ({ s with waiting := false }.failAttempt .readTimeout) := by
  simp only [State.answer, h, if_true, State.awaitAnswer]

/-- `Fault` ends the transaction (R200). -/
theorem State.answer_fault_of_taking {s : State} (h : s.taking = true) :
    s.answer .rxFault = .next s.transportError := by
  simp only [State.answer, h, if_true, State.awaitAnswer]
  rfl

/-- An `Ok` that comes while a `TxPut` is in progress (R320 (b)). -/
theorem step_txPut_ok {s : State} {rest : List HostEvent} (h : s.Inv) (hw : s.waiting = true)
    (hx : s.txnState = .send) (hs : s.schedule = .answer (.txPut .ok) :: rest) :
    ∃ b, s.encByte = some b ∧
      step s = .next
        ({ s with schedule := rest, txStream := s.txStream ++ [b], waiting := false }.encAdvance b) := by
  obtain ⟨b, hb⟩ := h.encByte_some hx
  refine ⟨b, hb, (step_answer (h.cmdPhase_ne_replyDue (h.not_idle_of_waiting hw)) hs).trans ?_⟩
  exact State.answer_ok_of_putting (s := { s with schedule := rest }) (h.putting hw hx) hb

/-- A `Timeout` that comes while an `RxTake` is in progress (R320 (b)). -/
theorem step_rxTimeout {s : State} {rest : List HostEvent} (h : s.Inv) (hw : s.waiting = true)
    (hx : s.txnState = .await) (hs : s.schedule = .answer .rxTimeout :: rest) :
    step s = .next ({ s with schedule := rest, waiting := false }.failAttempt .readTimeout) :=
  (step_answer (h.cmdPhase_ne_replyDue (h.not_idle_of_waiting hw)) hs).trans
    (State.answer_timeout_of_taking (s := { s with schedule := rest }) (h.taking hw hx))

/-- A `Fault` that comes while a call of its kind is in progress (R200, R320 (b)). -/
theorem step_callFault {s : State} {rest : List HostEvent} (h : s.Inv) (hw : s.waiting = true)
    (hs : s.txnState = .send ∧ s.schedule = .answer (.txPut .fault) :: rest ∨
      s.txnState = .await ∧ s.schedule = .answer .rxFault :: rest) :
    step s = .next { s with schedule := rest }.transportError := by
  have hphase := h.cmdPhase_ne_replyDue (h.not_idle_of_waiting hw)
  rcases hs with ⟨hx, hs⟩ | ⟨hx, hs⟩
  · obtain ⟨b, hb⟩ := h.encByte_some hx
    exact (step_answer hphase hs).trans
      (State.answer_fault_of_putting (s := { s with schedule := rest }) (h.putting hw hx) hb)
  · exact (step_answer hphase hs).trans
      (State.answer_fault_of_taking (s := { s with schedule := rest }) (h.taking hw hx))

/-! ### What an answer leaves of the call -/

theorem State.encAdvance_frame (s : State) (b : Byte) :
    (s.encAdvance b).schedule = s.schedule ∧ (s.encAdvance b).sessState = s.sessState ∧
      (s.encAdvance b).waiting = s.waiting := by
  unfold State.encAdvance
  cases s.encState <;> exact ⟨rfl, rfl, rfl⟩

theorem State.transportError_ends (s : State) :
    s.transportError.txnState = .idle ∧ s.transportError.resTag = .fatal ∧ s.transportError.fatal = true ∧
      s.transportError.lastErr = .transport ∧ s.transportError.schedule = s.schedule := by
  unfold State.transportError
  rw [State.finish_frame]
  exact ⟨rfl, rfl, rfl, rfl, rfl⟩

/-- A byte put leaves the transaction in progress (R152, R193). -/
theorem State.encAdvance_not_idle {s : State} (hx : s.txnState ≠ .idle) (b : Byte) :
    (s.encAdvance b).txnState ≠ .idle := by
  unfold State.encAdvance
  cases s.encState
  case lf => nofun
  all_goals exact hx

/-- No reaction of the block opens the Session, makes a call, or looks at the schedule. -/
theorem Reaction.frame {s t : State} (h : Reaction s t) (hw : s.waiting = false) :
    t.schedule = s.schedule ∧ t.sessState = s.sessState ∧ t.waiting = false := by
  have finished {u : State} (hu : u.schedule = s.schedule ∧ u.sessState = s.sessState ∧ u.waiting = false) :
      u.finish.schedule = s.schedule ∧ u.finish.sessState = s.sessState ∧ u.finish.waiting = false := by
    rw [u.finish_frame]; exact hu
  cases h with
  | fault => exact finished ⟨rfl, rfl, rfl⟩
  | @failed c =>
    rcases s.failAttempt_cases c with ⟨-, h⟩ | ⟨-, h⟩ <;> rw [h]
    · exact finished ⟨rfl, rfl, hw⟩
    · exact ⟨rfl, rfl, rfl⟩
  | @put b =>
    obtain ⟨hs, hc, hw'⟩ := s.encAdvance_frame b
    exact ⟨hs, hc, hw'.trans hw⟩
  | ended => exact finished ⟨rfl, rfl, hw⟩
  | _ => exact ⟨rfl, rfl, hw⟩

/-- A reaction that ends the transaction gives it an outcome (R198, R199, R200). -/
theorem Reaction.outcome {s t : State} (h : Reaction s t) (hx : s.txnState ≠ .idle) (ht : t.txnState = .idle) :
    t.resTag ≠ .none := by
  have finished {u : State} (hu : u.resTag ≠ .none) : u.finish.resTag ≠ .none := by
    rw [u.finish_frame]; exact hu
  cases h with
  | fault => exact finished nofun
  | @failed c =>
    rcases s.failAttempt_cases c with ⟨-, h⟩ | ⟨-, h⟩
    · rw [h]; exact finished nofun
    · rw [h] at ht; cases ht
  | put => exact absurd ht (State.encAdvance_not_idle hx _)
  | ended => exact finished nofun
  | _ => exact absurd ht hx

/-! ### A close during the call -/

/-- `t` follows `u`, whose Session is closed: the transaction is over as it was, or it has ended fatally (R208). -/
def State.closesInto (u t : State) : Prop :=
  t.txnState = .idle ∧
    (u.txnState = .idle ∧ t.resTag = u.resTag ∧ t.fatal = u.fatal ∨ t.resTag = .fatal ∧ t.fatal = true)

theorem State.closesInto.fatal {u t : State} (h : u.closesInto t)
    (hu : u.txnState = .idle → u.resTag = .fatal ∧ u.fatal = true) : t.resTag = .fatal ∧ t.fatal = true := by
  obtain ⟨-, ⟨hx, htag, hfatal⟩ | h⟩ := h
  · exact ⟨htag.trans (hu hx).1, hfatal.trans (hu hx).2⟩
  · exact h

theorem State.closesInto.outcome {u t : State} (h : u.closesInto t) (hu : u.txnState = .idle → u.resTag ≠ .none) :
    t.resTag ≠ .none := by
  obtain ⟨-, ⟨hx, htag, -⟩ | ⟨htag, -⟩⟩ := h
  · rw [htag]; exact hu hx
  · rw [htag]; nofun

/-- With a reply due and nothing scheduled a step is `REPLY_DECODE` (R280). -/
theorem step_replyDue {s : State} (hc : s.cmdPhase = .replyDue) (hs : s.schedule = []) :
    step s = (fetchReply s).outcome := by
  rw [step_eq_outcome, fetch, hs]
  simp only [hc, if_true]

/-- The next step of a block whose Session is closed, no call being in progress (R208). -/
theorem step_closed {u : State} (h : u.Inv) (hs : u.schedule = []) (hc : u.sessState = .closed)
    (hw : u.waiting = false) : ∃ t, step u = .next t ∧ u.closesInto t := by
  by_cases hx : u.txnState = .idle
  · by_cases hp : u.cmdPhase = .replyDue
    · obtain ⟨t, ht, hxt, htag, hfatal⟩ := fetchReply_next u
      exact ⟨t, (step_replyDue hp hs).trans ht, hxt.trans hx, .inl ⟨hx, htag, hfatal⟩⟩
    · refine ⟨u, (step_block hp hs).trans ?_, hx, .inl ⟨hx, rfl, rfl⟩⟩
      simp only [State.blockStep, hx]
  · refine ⟨u.transportError, (step_block (h.cmdPhase_ne_replyDue hx) hs).trans ?_, ?_⟩
    · rcases u.blockStep_cases with ⟨hi, -⟩ | ⟨-, -, -, hb⟩ | ⟨-, hopen, -⟩ | ⟨-, hopen, -⟩
      · exact absurd hi hx
      · exact hb
      · simp [hc, hw] at hopen
      · simp [hc, hw] at hopen
    · obtain ⟨hxt, htag, hfatal, -⟩ := u.transportError_ends
      exact ⟨hxt, .inr ⟨htag, hfatal⟩⟩

/-- The call being answered, the transaction of a closed Session is over a step later (R208). -/
theorem run_closed_call {v w u : State} {m : Streams} (h : w.Inv) (hs : w.schedule = []) (hc : w.sessState = .closed)
    (hstep : step v = .next u) (hr : Reaction (w.afterCall m) u) : ∃ t, run 2 v = .next t ∧ u.closesInto t := by
  obtain ⟨hsu, hcu, hwu⟩ := hr.frame rfl
  obtain ⟨t, ht, hclose⟩ := step_closed (hr.inv (h.afterCall m) rfl) (hsu.trans hs) (hcu.trans hc) hwu
  exact ⟨t, (run_succ hstep 1).trans (run_succ ht 0), hclose⟩

/-- A `SESSION_CLOSE` leaves the call in progress (R207, R372). -/
theorem step_sessionClose_in_call {s : State} {rest : List HostEvent} (h : s.Inv) (hw : s.waiting = true)
    (hs : s.schedule = .sessionClose :: rest) :
    ∃ v, step s = .next v ∧ v.Inv ∧ v.waiting = true ∧ v.sessState = .closed ∧ v.schedule = rest ∧
      v.txnState = s.txnState := by
  obtain ⟨cs, hv⟩ := State.sessionClose_eq { s with schedule := rest }
  have hstep : step s = .next { s with schedule := rest }.sessionClose :=
    step_event (h.cmdPhase_ne_replyDue (h.not_idle_of_waiting hw)) hs
  refine ⟨_, hstep, State.Inv.sessionClose (s := { s with schedule := rest }) h, ?_⟩
  rw [hv]
  exact ⟨hw, rfl, rfl, rfl⟩

/-- A byte that arrives is no frame of its own (R90). -/
theorem decode_wire_byte (P : Params) (b : Byte) : ∃ r, decode P .wire [b] = .error r := by
  simp only [decode, decodeFrame]
  split <;> exact ⟨_, rfl⟩

/-- A byte arrives in the input buffer (R69, R320 (a)). -/
theorem step_byte {s : State} {b : Byte} {rest : List HostEvent} (hc : s.cmdPhase ≠ .replyDue)
    (hs : s.schedule = .words .wire [b] :: rest) : step s = .next ({ s with schedule := rest }.arrive [b]) := by
  obtain ⟨r, hr⟩ := decode_wire_byte s.params b
  rw [step_event hc hs]
  simp only [fetchEvent, fetchWords, hr, Fetched.outcome]

/-- An `RxTake` with an answer there is answered, and the block reacts (R154 to R162). -/
theorem State.Inv.awaitStep_reacts {s : State} (h : s.Inv) (hx : s.txnState = .await) (hr : s.rxStream ≠ []) :
    ∃ m u, s.awaitStep = .next u ∧ Reaction (s.afterCall m) u := by
  have hd := h.decState_ne_idle hx
  rcases s.awaitStep_cases with ⟨hi, -⟩ | ⟨-, h0, -⟩ | ⟨-, a, ib, ra, -, -, hs⟩
  · exact absurd hi hd
  · exact absurd h0 hr
  refine ⟨{ s.streams with input := ib, rx := ra }, ?_⟩
  cases ho : s.awaitStep with
  | next u => exact ⟨u, rfl, State.awaitAnswer_reaction hd (hs.symm.trans ho)⟩
  | fault f => exact absurd (State.awaitStep_fault ho) h.not_pastBuffer
  | refused r => exact absurd ho (s.awaitStep_ne_refused r)

/-- A `TxPut` in progress on a closed Session, once answered, is the transaction's last (R200, R208). -/
theorem run_closed_txPut {v : State} (h : v.Inv) (hw : v.waiting = true) (hc : v.sessState = .closed)
    (hx : v.txnState = .send) {a : LineAnswer} (hs : v.schedule = [.answer (.txPut a)]) :
    ∃ t, run 2 v = .next t ∧ t.txnState = .idle ∧ t.resTag = .fatal ∧ t.fatal = true := by
  cases a with
  | ok =>
    obtain ⟨b, hb, hstep⟩ := step_txPut_ok h hw hx hs
    obtain ⟨t, ht, hclose⟩ :=
      run_closed_call (w := { v with schedule := [] }) (m := { v.streams with tx := v.txStream ++ [b] }) h rfl hc hstep
        (.put hb)
    have hgoes := State.encAdvance_not_idle
      (s := { v with schedule := [], txStream := v.txStream ++ [b], waiting := false }) (h.not_idle_of_waiting hw) b
    exact ⟨t, ht, hclose.1, hclose.fatal fun hu => absurd hu hgoes⟩
  | fault =>
    obtain ⟨t, ht, hclose⟩ :=
      run_closed_call (w := { v with schedule := [] }) (m := v.streams) h rfl hc (step_callFault h hw (.inl ⟨hx, hs⟩))
        .fault
    obtain ⟨-, htag, hfatal, -⟩ := State.transportError_ends { v with schedule := [] }
    exact ⟨t, ht, hclose.1, hclose.fatal fun _ => ⟨htag, hfatal⟩⟩

/-- An `RxTake` in progress on a closed Session, once answered, is the transaction's last (R208). -/
theorem run_closed_rxTake {v w u : State} {m : Streams} (h : w.Inv) (hs : w.schedule = []) (hc : w.sessState = .closed)
    (hx : w.txnState = .await) (hstep : step v = .next u) (hr : Reaction (w.afterCall m) u) :
    ∃ t, run 2 v = .next t ∧ t.txnState = .idle ∧ t.resTag ≠ .none := by
  obtain ⟨t, ht, hclose⟩ := run_closed_call h hs hc hstep hr
  have hne : w.txnState ≠ .idle := by rw [hx]; nofun
  exact ⟨t, ht, hclose.1, hclose.outcome (hr.outcome hne)⟩

/-- A `Timeout` or `Fault` given to the `RxTake` in progress. -/
theorem run_closed_rxAnswer {v : State} (h : v.Inv) (hw : v.waiting = true) (hc : v.sessState = .closed)
    (hx : v.txnState = .await) {a : TransportAnswer} (ha : a = .rxTimeout ∨ a = .rxFault)
    (hs : v.schedule = [.answer a]) : ∃ t, run 2 v = .next t ∧ t.txnState = .idle ∧ t.resTag ≠ .none := by
  rcases ha with rfl | rfl
  · exact run_closed_rxTake (w := { v with schedule := [] }) (m := v.streams) h rfl hc hx (step_rxTimeout h hw hx hs)
      (.failed (h.decState_ne_idle hx) rfl)
  · exact run_closed_rxTake (w := { v with schedule := [] }) (m := v.streams) h rfl hc hx
      (step_callFault h hw (.inr ⟨hx, hs⟩)) .fault

/-- An `RxTake` in progress that finds an answer in the RX stream. -/
theorem run_closed_rxStream {v : State} (h : v.Inv) (hw : v.waiting = true) (hc : v.sessState = .closed)
    (hx : v.txnState = .await) (hs : v.schedule = []) (hr : v.rxStream ≠ []) :
    ∃ t, run 2 v = .next t ∧ t.txnState = .idle ∧ t.resTag ≠ .none := by
  obtain ⟨m, u, hu, hreact⟩ := h.awaitStep_reacts hx hr
  have hstep : step v = .next u := by
    rw [step_block (h.cmdPhase_ne_replyDue (h.not_idle_of_waiting hw)) hs, State.blockStep_await hx (.inr hw), hu]
  exact run_closed_rxTake h hs hc hx hstep hreact

/-- A byte that arrives answers the `RxTake` in progress (R320 (a)). -/
theorem run_closed_byte {v : State} (h : v.Inv) (hw : v.waiting = true) (hc : v.sessState = .closed)
    (hx : v.txnState = .await) {b : Byte} (hs : v.schedule = [.words .wire [b]]) :
    ∃ t, run 3 v = .next t ∧ t.txnState = .idle ∧ t.resTag ≠ .none := by
  have hbyte : ({ v with schedule := [] }.arrive [b]).rxStream ≠ [] := by
    simp [State.rxStream, byteAnswers]
  obtain ⟨t, ht, hend⟩ := run_closed_rxStream (v := { v with schedule := [] }.arrive [b]) h hw hc hx rfl hbyte
  exact ⟨t, (run_succ (step_byte (h.cmdPhase_ne_replyDue (h.not_idle_of_waiting hw)) hs) 2).trans ht, hend⟩

/-! ### An answer to no call -/

theorem State.answered_txPut (s : State) (a : LineAnswer) :
    s.answered (.txPut a) = { s with txAnswers := s.txAnswers ++ [a] } := by
  simp [State.answered, TransportAnswer.toTxPut, TransportAnswer.toRxTake, TransportAnswer.toLine]

theorem State.answered_rxTimeout (s : State) :
    s.answered .rxTimeout = { s with rxAnswers := s.rxAnswers ++ [.timeout] } := by
  simp [State.answered, TransportAnswer.toTxPut, TransportAnswer.toRxTake, TransportAnswer.toLine]

theorem State.answered_rxFault (s : State) :
    s.answered .rxFault = { s with rxAnswers := s.rxAnswers ++ [.fault] } := by
  simp [State.answered, TransportAnswer.toTxPut, TransportAnswer.toRxTake, TransportAnswer.toLine]

/-- With no call in progress an answer is kept behind those of its kind (log 2). -/
theorem step_answer_kept {s : State} {a : TransportAnswer} {rest : List HostEvent} (hc : s.cmdPhase ≠ .replyDue)
    (hw : s.waiting = false) (hs : s.schedule = .answer a :: rest) :
    step s = .next ({ s with schedule := rest }.answered a) :=
  (step_answer hc hs).trans (State.answer_of_not_waiting (s := { s with schedule := rest }) hw a)

/-- Settles O52: without an answer by induction on the steps; with one by the step of the answer; with a close before the
answer by the two steps that follow it. -/
theorem unansweredCallWaits : Obligations.UnansweredCallWaits := by
  refine ⟨fun s h hs hopen hcall => run_unanswered h ⟨hs, hopen, hcall⟩,
    fun s rest h hw => ⟨fun hx hs => ?_, fun hx hs => ?_, fun hs => ?_⟩,
    fun s rest hc hw => ⟨fun a hs => ?_, fun hs => ?_, fun hs => ?_⟩,
    fun s h hw => ⟨fun a hx hs => ?_, fun a hx ha hs => ?_, fun b hx _ hs => ?_⟩⟩
  · obtain ⟨b, hb, hstep⟩ := step_txPut_ok h hw hx hs
    have hstreams := State.encAdvance_streams
      { s with schedule := rest, txStream := s.txStream ++ [b], waiting := false } b
    obtain ⟨hsched, -, hwait⟩ := State.encAdvance_frame
      { s with schedule := rest, txStream := s.txStream ++ [b], waiting := false } b
    exact ⟨b, _, hb, hstep, congrArg Streams.tx hstreams, congrArg Streams.put hstreams, hwait, hsched⟩
  · have hstreams := State.failAttempt_streams { s with schedule := rest, waiting := false } .readTimeout
    have hr : Reaction { s with schedule := rest, waiting := false } _ :=
      .failed (c := .readTimeout) (h.decState_ne_idle hx) rfl
    exact ⟨_, step_rxTimeout h hw hx hs, State.failAttempt_failedInto _ _, congrArg Streams.input hstreams,
      congrArg Streams.rx hstreams, (hr.frame rfl).1⟩
  · have hstreams := State.transportError_streams { s with schedule := rest }
    obtain ⟨hx, htag, hfatal, herr, hsched⟩ := State.transportError_ends { s with schedule := rest }
    exact ⟨_, step_callFault h hw hs, hx, htag, hfatal, herr, congrArg Streams.tx hstreams,
      congrArg Streams.put hstreams, congrArg Streams.input hstreams, congrArg Streams.rx hstreams, hsched⟩
  · rw [step_answer_kept hc hw hs, State.answered_txPut]
  · rw [step_answer_kept hc hw hs, State.answered_rxTimeout]
  · rw [step_answer_kept hc hw hs, State.answered_rxFault]
  · obtain ⟨v, hv, hinv, hwv, hc, hsv, hxv⟩ := step_sessionClose_in_call h hw hs
    obtain ⟨t, ht, hend⟩ := run_closed_txPut hinv hwv hc (hxv.trans hx) hsv
    exact ⟨t, (run_succ hv 2).trans ht, hend⟩
  · obtain ⟨v, hv, hinv, hwv, hc, hsv, hxv⟩ := step_sessionClose_in_call h hw hs
    obtain ⟨t, ht, hend⟩ := run_closed_rxAnswer hinv hwv hc (hxv.trans hx) ha hsv
    exact ⟨t, (run_succ hv 2).trans ht, hend⟩
  · obtain ⟨v, hv, hinv, hwv, hc, hsv, hxv⟩ := step_sessionClose_in_call h hw hs
    obtain ⟨t, ht, hend⟩ := run_closed_byte hinv hwv hc (hxv.trans hx) hsv
    exact ⟨t, (run_succ hv 3).trans ht, hend⟩

end Sys2Proof.Machine
end

section
/-! PROOF. Words and instructions: at every port what the decoder makes of the encoder's words and what it accepts (R90, R92,
R97, R100 to R107, R286): `AxesEncodeSaturated`, `DecodeEncodeRoundTrip`, `EncodeDecodeRoundTrip`, `LengthBytes`. -/

namespace Sys2Proof

open Machine

/-! ### Commands and their rows -/

/-- A command's words decode to the command with its axes saturated (R100, R103). -/
theorem decodeCommand_build {P : Params} {c : Command} (h : c.ofShape P = true) :
    decodeCommand P (build P.hat c) = .ok ⟨c.op, c.operands.saturated⟩ := by
  rw [build_cons, decodeCommand, ofShape_iff.mp h]
  simp only [decodeOperands_build]

/-- What decodes as a command has the words of that command, which is well-formed (R103). -/
theorem decodeCommand_ok {P : Params} {bs : List Byte} {c : Command} (h : decodeCommand P bs = .ok c) :
    build P.hat c = bs ∧ c.wellFormed P = true := by
  unfold decodeCommand at h
  split at h
  · cases h
  split at h
  · cases h
  next sh hsh =>
    split at h
    · next o ho =>
      cases h
      obtain ⟨hb, hs, hin⟩ := build_of_decodeOperands ho
      refine ⟨hb, Bool.and_eq_true_iff.mpr ⟨ofShape_iff.mpr ?_, hin⟩⟩
      rw [hsh, ← hs]
    · cases h

/-- The row of the opcode table is read off the command (R102). -/
theorem decodeRequest_of_decodeCommand {P : Params} {bs : List Byte} {c : Command} {i : Instr}
    (hd : decodeCommand P bs = .ok c) (hi : commandOf i = some c) : decodeRequest P bs = .ok i := by
  simp only [decodeRequest, hd, rowOf_eq_some.mpr hi]

theorem decodeRequest_ok {P : Params} {bs : List Byte} {i : Instr} (h : decodeRequest P bs = .ok i) :
    ∃ c, decodeCommand P bs = .ok c ∧ commandOf i = some c := by
  unfold decodeRequest at h
  split at h
  · cases h
  next c hc =>
    split at h
    next j hj => cases h; exact ⟨c, hc, rowOf_eq_some.mp hj⟩
    next => cases h

/-- A row's words decode to the row with its axes saturated (R100). -/
theorem decodeRequest_encode {P : Params} {i : Instr} (hp : portOf i = .typed) (h : i.ofShape P = true) :
    decodeRequest P (encode P i) = .ok i.saturated := by
  obtain ⟨c, hc⟩ := commandOf_of_typed hp
  rw [ofShape_of_commandOf hc] at h
  rw [encode_of_commandOf hc]
  exact decodeRequest_of_decodeCommand (decodeCommand_build h) (commandOf_saturated hc)

/-- Saturation leaves a typed row in range as it is (R100). -/
theorem saturated_of_inRange {i : Instr} (hp : portOf i = .typed) (h : i.inRange = true) : i.saturated = i := by
  obtain ⟨c, hc⟩ := commandOf_of_typed hp
  rw [inRange_of_commandOf hc] at h
  have hs := commandOf_saturated hc
  rw [saturated_of_inBytes h] at hs
  exact Option.some.inj ((rowOf_eq_some.mpr hs).symm.trans (rowOf_eq_some.mpr hc))

/-- Settles O3, for rows and commands by the same decoding of the builder's words. -/
theorem axesEncodeSaturated : Obligations.AxesEncodeSaturated :=
  fun _ => ⟨fun _ hp h => decodeRequest_encode hp h, fun _ h => decodeCommand_build h⟩

/-! ### Frames -/

/-- A frame with the right check byte decodes to itself (R90, R93). -/
theorem decodeFrame_frameBytes {p : List Byte} (h : p.length ≤ 15) :
    decodeFrame (frameBytes p (chk8 p)) = .ok (.frame p (chk8 p)) := by
  simp [frameBytes, decodeFrame, lenOfByte_lenByte, ofNat4_toNat h, decodeFrameBody]

/-- A list behind whose first `n` elements two more stand is those elements and the two. -/
theorem eq_append_of_drop {l : List Byte} {n : Nat} {a b : Byte} (h : l.drop n = [a, b]) :
    l = l.take n ++ [a, b] ∧ (l.take n).length = n := by
  refine ⟨by rw [← h, List.take_append_drop], ?_⟩
  have hl := congrArg List.length h
  simp only [List.length_drop, List.length_cons, List.length_nil] at hl
  rw [List.length_take]; omega

/-- What decodes as a frame is the frame of a payload of at most 15 bytes, with its check byte (R90, R92, R159). -/
theorem decodeFrame_ok {bs : List Byte} {i : Instr} (h : decodeFrame bs = .ok i) :
    ∃ p, p.length ≤ 15 ∧ i = .frame p (chk8 p) ∧ bs = frameBytes p (chk8 p) := by
  unfold decodeFrame at h
  split at h
  next start lb rest =>
    split_ifs at h with hstart
    split at h
    · cases h
    next n hn =>
      unfold decodeFrameBody at h
      split at h
      next check last hdrop =>
        obtain ⟨hrest, hlen⟩ := eq_append_of_drop hdrop
        split_ifs at h with hend hchk
        rw [not_not] at hstart hend hchk
        cases h
        refine ⟨_, ?_, by rw [hchk], ?_⟩
        · have := n.isLt; omega
        · rw [frameBytes, hlen, BitVec.ofNat_toNat, BitVec.setWidth_eq, lenByte_of_lenOfByte hn, ← hchk, ← hstart, ← hend,
            List.append_assoc, ← hrest]
          rfl
      · cases h
  · split_ifs at h
  · cases h

/-! ### Replies -/

/-- A status code has one byte (R105, R282). -/
theorem decodeStatusReply_code (P : Params) {n : Nat} (h : n ≤ 9) :
    decodeStatusReply P [BitVec.ofNat 8 (P.statusBase + n)] = .ok (.replyStatus (BitVec.ofNat 4 n)) := by
  have hb := P.statusBase.isLt
  have hv : (BitVec.ofNat 8 (P.statusBase + n)).toNat = P.statusBase + n := by
    rw [BitVec.toNat_ofNat]; omega
  rw [decodeStatusReply, hv, if_neg (by omega), Nat.add_sub_cancel_left]

/-- What decodes as a status reply is the byte of one of the ten codes (R286). -/
theorem decodeStatusReply_ok {P : Params} {bs : List Byte} {i : Instr} (h : decodeStatusReply P bs = .ok i) :
    ∃ n, n ≤ 9 ∧ i = .replyStatus (BitVec.ofNat 4 n) ∧ bs = [BitVec.ofNat 8 (P.statusBase + n)] := by
  unfold decodeStatusReply at h
  split at h
  next b =>
    split_ifs at h with hr
    cases h
    refine ⟨b.toNat - P.statusBase, by omega, rfl, ?_⟩
    rw [Nat.add_sub_cancel' (by omega), BitVec.ofNat_toNat, BitVec.setWidth_eq]
  · cases h

theorem decodeStateReply_encode (P : Params) (f h t c : Byte) (irq cmd : Word) (e : Byte) :
    decodeStateReply (encode P (.replyState f h t c irq cmd e)) = .ok (.replyState f h t c irq cmd e) := by
  simp [encode, be32, decodeStateReply, ube32_extract]

/-- What decodes as a state reply has the words of that reply (R283, R286). -/
theorem decodeStateReply_ok (P : Params) {bs : List Byte} {i : Instr} (h : decodeStateReply bs = .ok i) :
    portOf i = .reply .state ∧ encode P i = bs ∧ i.wellFormed P = true := by
  unfold decodeStateReply at h
  split at h
  · split_ifs at h with hecho
    cases h
    rw [not_not] at hecho
    refine ⟨rfl, ?_, rfl⟩
    rw [encode, be32_ube32, be32_ube32, hecho]
    rfl
  · cases h

/-! ### The round trips -/

/-- Settles O1: a typed row by the command it is, each other row at its own port. -/
theorem decodeEncodeRoundTrip : Obligations.DecodeEncodeRoundTrip := by
  intro P
  refine ⟨fun i h => ?_, fun c h => ?_⟩
  · obtain ⟨hsh, hin⟩ := Bool.and_eq_true_iff.mp h
    by_cases hp : portOf i = .typed
    · rw [hp, decode, decodeRequest_encode hp hsh, saturated_of_inRange hp hin]
    cases i
    case raw => rfl
    case frame p c =>
      obtain ⟨hlen, hc⟩ := Bool.and_eq_true_iff.mp hin
      rw [eq_of_beq hc]
      exact decodeFrame_frameBytes (of_decide_eq_true hlen)
    case replyAlive => rfl
    case replyStatus n =>
      have hd := decodeStatusReply_code P (of_decide_eq_true hin : n.toNat ≤ 9)
      rwa [BitVec.ofNat_toNat, BitVec.setWidth_eq] at hd
    case replyState => exact decodeStateReply_encode P ..
    all_goals exact absurd rfl hp
  · obtain ⟨hsh, hin⟩ := Bool.and_eq_true_iff.mp h
    rw [decodeCommand_build hsh, saturated_of_inBytes hin]

/-- Settles O2, port by port. -/
theorem encodeDecodeRoundTrip : Obligations.EncodeDecodeRoundTrip := by
  intro P
  refine ⟨fun p bs i h => ?_, fun bs c h => decodeCommand_ok h⟩
  cases p with
  | typed =>
    obtain ⟨c, hd, hi⟩ := decodeRequest_ok h
    obtain ⟨hb, hwf⟩ := decodeCommand_ok hd
    refine ⟨portOf_of_commandOf hi, (encode_of_commandOf hi).trans hb, fun _ _ => ?_⟩
    rw [Instr.wellFormed, ofShape_of_commandOf hi, inRange_of_commandOf hi]
    exact hwf
  | raw => cases h; exact ⟨rfl, rfl, fun hne => absurd rfl hne⟩
  | wire =>
    obtain ⟨p, hp, rfl, rfl⟩ := decodeFrame_ok h
    refine ⟨rfl, rfl, fun _ _ => ?_⟩
    simp [Instr.wellFormed, Instr.ofShape, commandOf, Instr.inRange, Config.maxPayload, hp]
  | reply c =>
    cases c with
    | alive => cases h; exact ⟨rfl, rfl, fun _ hne => absurd rfl hne⟩
    | status =>
      obtain ⟨n, hn, rfl, rfl⟩ := decodeStatusReply_ok h
      have hv : (BitVec.ofNat 4 n).toNat = n := ofNat4_toNat (by omega)
      refine ⟨rfl, by rw [encode, hv], fun _ _ => ?_⟩
      simp only [Instr.wellFormed, Instr.ofShape, commandOf, Instr.inRange, hv, hn, decide_true, Bool.and_self]
    | state =>
      obtain ⟨hp, he, hwf⟩ := decodeStateReply_ok P h
      exact ⟨hp, he, fun _ _ => hwf⟩

/-! ### The length byte -/

/-- An illegal length byte after a start marker fails the decode at once (R92, R156). -/
theorem decodeAnswers_illegalLength {lb : Byte} (h : lenOfByte lb = none) (r : List RxAnswer) :
    decodeAnswers (.byte Config.startMarker :: .byte lb :: r) = .error .framingLen r := by
  simp [decodeAnswers, decodeLen, takeByte, h]

/-- R92's equivalent test: the nibbles XOR to 15. -/
theorem lenOfByte_eq (lb : Byte) :
    lenOfByte lb = if lb.extractLsb' 4 4 ^^^ lb.extractLsb' 0 4 = 0xF then some (lb.extractLsb' 0 4) else none := by
  revert lb; decide

theorem lenByte_toNat (n : Nibble) : (lenByte n).toNat = n.toNat + 16 * (15 - n.toNat) := by
  revert n; decide

/-- Settles O9; the table and the two markers are computed. -/
theorem lengthBytes : Obligations.LengthBytes :=
  ⟨by decide, fun n => ⟨lenByte_toNat n, lenOfByte_lenByte n⟩, lenOfByte_eq,
    fun _ r h => decodeAnswers_illegalLength h r, by decide, by decide⟩

end Sys2Proof
end

section
/-! PROOF. The typed commands in an admitting state (R191 to R193, R209, R233 to R238): each is latched behind its opcode and its
first attempt started. -/

namespace Sys2Proof.Machine

open Host (Outcome)

/-! ### An admitted command -/

/-- An admitted `COMMAND` is latched and its first attempt started (R192, R193, R209). -/
theorem State.command_of_admits {s : State} (h : s.admits) (op : Byte) (ops : List Byte) :
    s.command (op :: ops) = s.startedCommand op ops := by
  have hu : { s with curOp := op, rplKind := .none, cmdPhase := .running }.usable = true := State.usable_of_admits h
  rcases s.command_cases (op :: ops) with ⟨hx, -⟩ | ⟨-, he⟩
  · exact absurd h.1 hx
  · rw [he, State.runExecute, List.headD_cons, if_pos hu]
    rfl

/-- A row whose words are `op` and `ops` starts its transaction (R209). -/
theorem exec_startedCommand {s : State} (h : s.admits) {i : Instr} {op : Byte} {o : Operands} {ops : List Byte}
    (hi : commandOf i = some ⟨op, o⟩) (hb : build s.params.hat ⟨op, o⟩ = op :: ops) :
    exec i s = .next (s.startedCommand op ops) := by
  rw [exec_typed i s (portOf_of_commandOf hi), encode_of_commandOf hi, hb, State.command_of_admits h]

/-- A command of its opcode's shape, row or none, starts its transaction (R103, R209). -/
theorem step_startedCommand {s : State} (h : s.admits) {op : Byte} {o : Operands} {ops : List Byte}
    {rest : List HostEvent} (hs : s.schedule = .command ⟨op, o⟩ :: rest) (hc : s.cmdPhase ≠ .replyDue)
    (hsh : shapeOf s.params op = some o.shape) (hb : build s.params.hat ⟨op, o⟩ = op :: ops) :
    step s = .next ({ s with schedule := rest }.startedCommand op ops) := by
  have ha : { s with schedule := rest }.admits := h
  have hof : Command.ofShape { s with schedule := rest }.params ⟨op, o⟩ = true := ofShape_iff.mpr hsh
  rw [step_event hc hs, fetchEvent, fetchCommand_of_ofShape hof, runCommand_outcome]
  exact congrArg Outcome.next ((congrArg _ hb).trans (State.command_of_admits ha op ops))

/-! ### The words of the shapes with axes -/

/-- `CLAMP` is the byte of the saturated axis (R231). -/
theorem clamp_eq_saturate (v : Int) : clamp v = BitVec.ofInt 8 (saturate v) := by
  rw [saturate, ← axisOf_clamp, axisOf, BitVec.ofInt_natCast, BitVec.ofNat_toNat, BitVec.setWidth_eq]

theorem build_stk (t : HatTable) (op : Byte) (x y : Int) (d : Option Half) :
    build t ⟨op, .stk x y d⟩ =
      op :: ([BitVec.ofInt 8 (saturate x), BitVec.ofInt 8 (saturate y)] ++ durationBytes d) := by
  simp only [build, buildStk, clamp_eq_saturate]
  rfl

theorem build_all (t : HatTable) (op : Byte) (m : Half) (lx ly rx ry : Int) (dir : Direction) (d : Option Half) :
    build t ⟨op, .all m lx ly rx ry dir d⟩ =
      op :: (be16 m ++ [BitVec.ofInt 8 (saturate lx), BitVec.ofInt 8 (saturate ly), BitVec.ofInt 8 (saturate rx),
        BitVec.ofInt 8 (saturate ry), hatCode t dir] ++ durationBytes d) := by
  simp only [build, buildAll, clamp_eq_saturate]

/-! ### The commands of each shape -/

/-- Settles O29: the builder writes the opcode alone. -/
theorem plainCommandsStart : Obligations.PlainCommandsStart := fun _ h =>
  ⟨fun _ _ hs hc hsh => step_startedCommand h hs hc hsh rfl,
    exec_startedCommand h rfl rfl, exec_startedCommand h rfl rfl, exec_startedCommand h rfl rfl,
    exec_startedCommand h rfl rfl, exec_startedCommand h rfl rfl, exec_startedCommand h rfl rfl,
    exec_startedCommand h rfl rfl⟩

/-- Settles O30: the builder writes the mask, then the duration. -/
theorem buttonCommandsStart : Obligations.ButtonCommandsStart := fun _ _ _ h =>
  ⟨fun _ _ hc hsh =>
      ⟨fun hs => step_startedCommand h hs hc hsh rfl, fun hs => step_startedCommand h hs hc hsh rfl⟩,
    exec_startedCommand h rfl rfl, exec_startedCommand h rfl rfl, exec_startedCommand h rfl rfl,
    exec_startedCommand h rfl rfl⟩

/-- Settles O31: the builder writes the saturated axes, then the duration. -/
theorem stickCommandsStart : Obligations.StickCommandsStart := fun _ _ _ _ h =>
  ⟨fun _ _ hc hsh =>
      ⟨fun hs => step_startedCommand h hs hc hsh (build_stk ..),
        fun hs => step_startedCommand h hs hc hsh (build_stk ..)⟩,
    exec_startedCommand h rfl (build_stk ..), exec_startedCommand h rfl (build_stk ..),
    exec_startedCommand h rfl (build_stk ..), exec_startedCommand h rfl (build_stk ..),
    exec_startedCommand h rfl (build_stk ..), exec_startedCommand h rfl (build_stk ..),
    exec_startedCommand h rfl (build_stk ..), exec_startedCommand h rfl (build_stk ..)⟩

/-- Settles O32: the builder writes the direction's code, then the duration; the codes are distinct by the table's own proof. -/
theorem hatCommandsStart : Obligations.HatCommandsStart :=
  ⟨by decide, fun t d e => (hatCode_inj t d e).mp, fun _ _ _ h =>
    ⟨fun _ _ hc hsh =>
        ⟨fun hs => step_startedCommand h hs hc hsh rfl, fun hs => step_startedCommand h hs hc hsh rfl⟩,
      exec_startedCommand h rfl rfl, exec_startedCommand h rfl rfl, exec_startedCommand h rfl rfl,
      exec_startedCommand h rfl rfl⟩⟩

/-- Settles O33: the builder writes the duration. -/
theorem durationCommandsStart : Obligations.DurationCommandsStart := fun _ _ h =>
  ⟨fun _ _ hs hc hsh => step_startedCommand h hs hc hsh rfl, exec_startedCommand h rfl rfl,
    exec_startedCommand h rfl rfl⟩

/-- Settles O34: the builder writes mask, axes, hat code, then the duration. -/
theorem wholePadCommandsStart : Obligations.WholePadCommandsStart := fun _ _ _ _ _ _ _ _ h =>
  ⟨fun _ _ hc hsh =>
      ⟨fun hs => step_startedCommand h hs hc hsh (build_all ..),
        fun hs => step_startedCommand h hs hc hsh (build_all ..)⟩,
    exec_startedCommand h rfl (build_all ..), exec_startedCommand h rfl (build_all ..),
    exec_startedCommand h rfl (build_all ..), exec_startedCommand h rfl (build_all ..)⟩

end Sys2Proof.Machine
end

section
/-! PROOF. The reply that is due (R280), and that of class `STATUS` (R105, R282, R286): `StatusReplyDecodes`. -/

namespace Sys2Proof.Machine

/-! ### The reply that is due -/

/-- With a reply due and reset not next, a step is `REPLY_DECODE` (R280). -/
theorem step_fetchReply {s : State} (hc : s.cmdPhase = .replyDue) (hr : s.noReset) :
    step s = (fetchReply s).outcome := by
  rw [step_eq_outcome]
  rcases fetch_cases s with ⟨rest, hs, -⟩ | ⟨-, -, hf⟩ | ⟨hne, -⟩ | ⟨hne, -⟩
  · exact absurd hs (hr rest)
  · rw [hf]
  · exact absurd hc hne
  · exact absurd hc hne

/-- A payload that is a reply of the class is run as that reply (R280). -/
theorem step_reply {s : State} {c : ReplyClass} (h : s.replyReady c) {i : Instr}
    (hd : decode s.params (.reply c) s.received = .ok i) : step s = exec i s := by
  obtain ⟨hc, hr, htag, rfl⟩ := h
  rw [step_fetchReply hc hr]
  simp only [fetchReply, htag, hd, Fetched.outcome]

/-- A payload that is no reply of the class is a protocol violation (R286). -/
theorem step_reply_violation {s : State} {c : ReplyClass} (h : s.replyReady c) {r : Reject}
    (hd : decode s.params (.reply c) s.received = .error r) : step s = .next s.violated := by
  obtain ⟨hc, hr, htag, rfl⟩ := h
  rw [step_fetchReply hc hr]
  simp only [fetchReply, htag, hd, Fetched.outcome]
  rfl

/-! ### Status replies -/

theorem exec_replyStatus_violation {s : State} {n : Nibble} (h : 9 < n.toNat) :
    exec (.replyStatus n) s = .next s.violated :=
  if_pos h

theorem exec_replyStatus_code {s : State} {n : Nibble} (h : n.toNat ≤ 9) :
    exec (.replyStatus n) s = .next { s with
      rplStatus := n, rplKind := .status, cmdPhase := .none, results := s.results ++ [.status n] } :=
  if_neg (by omega)

/-- Settles O39: a received payload is the byte of one of the ten codes or decodes to no reply. -/
theorem statusReplyDecodes : Obligations.StatusReplyDecodes := by
  refine ⟨rfl, fun _ _ h => exec_replyStatus_violation h, fun _ _ h => exec_replyStatus_code h,
    fun s n hn h hb => ?_, fun s h hno => ?_⟩
  · have hd := decodeStatusReply_code s.params hn
    rw [← hb] at hd
    rw [step_reply h hd]
    exact exec_replyStatus_code (by rw [ofNat4_toNat (by omega)]; exact hn)
  · cases hd : decodeStatusReply s.params s.received with
    | error r => exact step_reply_violation h hd
    | ok i =>
      obtain ⟨n, hn, -, hb⟩ := decodeStatusReply_ok hd
      exact absurd hb (hno n hn)

end Sys2Proof.Machine
end

section
/-! PROOF. The checksum (R130 to R138): the shift step is linear over XOR; from that the table form of `CRC_UPDATE`, the affine
checksum, and the single-bit errors it finds: `EmptyPayloadChecksum`, `CrcTableFormAgrees`, `ChecksumIsAffine`,
`SingleBitPayloadErrorsAreCaught`. -/

namespace Sys2Proof.Machine

/-- Settles O5; the empty payload is computed. -/
theorem emptyPayloadChecksum : Obligations.EmptyPayloadChecksum := by
  unfold Obligations.EmptyPayloadChecksum; decide

/-! ### The shift steps -/

/-- The shift step as a shift and a choice of what to XOR. -/
theorem crcShift_eq (a : Word) : crcShift a = (a >>> 1) ^^^ (if a.getLsbD 0 then crcPoly else 0) := by
  unfold crcShift
  split
  · rfl
  · exact BitVec.xor_zero.symm

theorem crcShift_xor (a b : Word) : crcShift (a ^^^ b) = crcShift a ^^^ crcShift b := by
  have hpoly : (if (a ^^^ b).getLsbD 0 then crcPoly else 0) =
      (if a.getLsbD 0 then crcPoly else 0) ^^^ (if b.getLsbD 0 then crcPoly else 0) := by
    rw [BitVec.getLsbD_xor]
    cases a.getLsbD 0 <;> cases b.getLsbD 0 <;> rfl
  rw [crcShift_eq, crcShift_eq, crcShift_eq, hpoly, BitVec.ushiftRight_xor_distrib]
  ac_rfl

theorem crcShift_of_even {a : Word} (h : a.getLsbD 0 = false) : crcShift a = a >>> 1 :=
  if_neg (by rw [h]; nofun)

/-- The loop is linear. -/
theorem crcShifts_xor (n : Nat) (a b : Word) : crcShifts n (a ^^^ b) = crcShifts n a ^^^ crcShifts n b := by
  induction n generalizing a b with
  | zero => rfl
  | succ n ih => simp only [crcShifts, crcShift_xor, ih]

theorem crcShifts_add (m n : Nat) (a : Word) : crcShifts (m + n) a = crcShifts n (crcShifts m a) := by
  induction m generalizing a with
  | zero => rw [Nat.zero_add, crcShifts]
  | succ m ih => rw [Nat.succ_add, crcShifts, ih, crcShifts]

/-- With only zeros to shift out, the loop is a plain shift. -/
theorem crcShifts_of_low_zero {n : Nat} {a : Word} (h : ∀ j < n, a.getLsbD j = false) : crcShifts n a = a >>> n := by
  induction n generalizing a with
  | zero => simp [crcShifts]
  | succ n ih =>
    have hrest : ∀ j < n, (a >>> 1).getLsbD j = false := fun j hj => by
      rw [BitVec.getLsbD_ushiftRight]; exact h _ (by omega)
    rw [crcShifts, crcShift_of_even (h 0 (by omega)), ih hrest, ← BitVec.shiftRight_add, Nat.add_comm]

/-! ### The table form -/

/-- A word is its bytes above the lowest, in their places, and the lowest. -/
theorem high_xor_low_byte (a : Word) : (a >>> 8 <<< 8) ^^^ (a &&& 0xFF) = a := by
  apply BitVec.eq_of_getLsbD_eq
  intro i hi
  have hmask : (0xFF#32)[i] = decide (i < 8) := Nat.testBit_two_pow_sub_one 8 i
  by_cases h : i < 8
  · simp [h, hi, hmask]
  · simp [h, hi, hmask, Nat.add_sub_cancel' (Nat.le_of_not_lt h)]

/-- The bytes above the lowest only move down in eight shift steps. -/
theorem crcShifts_high_bytes (a : Word) : crcShifts 8 (a >>> 8 <<< 8) = a >>> 8 := by
  rw [crcShifts_of_low_zero fun j hj => by simp [hj]]
  apply BitVec.eq_of_getLsbD_eq
  intro i hi
  by_cases h : 8 + i < 32
  · simp [h]
  · simp [h, BitVec.getLsbD_of_ge a (8 + i) (Nat.le_of_not_lt h)]

theorem xor_byte_high (a : Word) (b : Byte) : (a ^^^ b.setWidth 32) >>> 8 = a >>> 8 := by
  rw [BitVec.ushiftRight_xor_distrib]
  have hb : b.setWidth 32 >>> 8 = 0#32 := by
    apply BitVec.eq_of_getLsbD_eq
    intro i _
    simp
  rw [hb, BitVec.xor_zero]

/-- By linearity the low byte and those above it go through the loop apart. -/
theorem crcShifts_eight (a : Word) : crcShifts 8 a = (a >>> 8) ^^^ crcShifts 8 (a &&& 0xFF) :=
  calc crcShifts 8 a
    _ = crcShifts 8 ((a >>> 8 <<< 8) ^^^ (a &&& 0xFF)) := by rw [high_xor_low_byte]
    _ = (a >>> 8) ^^^ crcShifts 8 (a &&& 0xFF) := by rw [crcShifts_xor, crcShifts_high_bytes]

/-- Settles O6: the byte is not in the part of the accumulator that only moves down. -/
theorem crcTableFormAgrees : Obligations.CrcTableFormAgrees := fun acc b => by
  rw [crcUpdate, crcShifts_eight, xor_byte_high]

/-! ### The affine checksum -/

theorem crcUpdate_xor (a d : Word) (b e : Byte) : crcUpdate (a ^^^ d) (b ^^^ e) = crcUpdate a b ^^^ crcUpdate d e := by
  simp only [crcUpdate, ← crcShifts_xor, BitVec.setWidth_xor]
  congr 1
  ac_rfl

/-- The accumulators of two payloads of one length, XORed, are the accumulator of the XORed payloads. -/
theorem crcFold_xorBytes (a d : Word) {p q : List Byte} (h : p.length = q.length) :
    crcFold (a ^^^ d) (xorBytes p q) = crcFold a p ^^^ crcFold d q := by
  induction p generalizing a d q with
  | nil => rw [List.length_eq_zero_iff.mp h.symm]; rfl
  | cons b p ih =>
    obtain ⟨e, q, rfl⟩ := List.exists_cons_of_length_eq_add_one h.symm
    have hrest := ih (crcUpdate a b) (crcUpdate d e) (Nat.succ.inj h)
    rwa [← crcUpdate_xor] at hrest

/-- An error pattern changes the accumulator by what it leaves itself, started from 0. -/
theorem crcFold_xorBytes_zero (a : Word) {p e : List Byte} (h : p.length = e.length) :
    crcFold a (xorBytes p e) = crcFold a p ^^^ crcFold 0 e := by
  simpa using crcFold_xorBytes a 0 h

theorem xorBytes_zeros (q : List Byte) : xorBytes (List.replicate q.length 0) q = q := by
  induction q with
  | nil => rfl
  | cons b q ih => simpa [xorBytes, List.replicate_succ] using ih

theorem crcFinal_xor (a d : Word) : crcFinal (a ^^^ d) = crcFinal a ^^^ d := by
  unfold crcFinal
  ac_rfl

/-- A difference in the accumulator changes the check byte by its low byte. -/
theorem crcCheck_xor (a d : Word) : crcCheck (a ^^^ d) = crcCheck a ^^^ d.setWidth 8 := by
  rw [crcCheck, crcFinal_xor, BitVec.setWidth_xor, crcCheck]

theorem crc32_xorBytes {p e : List Byte} (h : p.length = e.length) : crc32 (xorBytes p e) = crc32 p ^^^ crcFold 0 e := by
  rw [crc32, crcFold_xorBytes_zero _ h, crcFinal_xor, crc32]

theorem chk8_xorBytes {p e : List Byte} (h : p.length = e.length) :
    chk8 (xorBytes p e) = chk8 p ^^^ (crcFold 0 e).setWidth 8 := by
  rw [chk8, crcFold_xorBytes_zero _ h, crcCheck_xor, chk8]

theorem xor_xor_self {n : Nat} (a d : BitVec n) : a ^^^ d ^^^ a = d := by
  rw [BitVec.xor_comm, ← BitVec.xor_assoc, BitVec.xor_self, BitVec.zero_xor]

/-- Settles O7: a pattern adds its own accumulator to the checksum of any payload, that of zeros among them. -/
theorem checksumIsAffine : Obligations.ChecksumIsAffine := by
  refine ⟨fun p q h => ?_, fun p q e hp hq => ?_⟩
  · have hq : crc32 q = crc32 (List.replicate p.length 0) ^^^ crcFold 0 q := by
      rw [← crc32_xorBytes (by rw [List.length_replicate, h]), h, xorBytes_zeros]
    rw [crc32_xorBytes h, hq, BitVec.xor_assoc, xor_xor_self]
  · rw [chk8_xorBytes hp, chk8_xorBytes hq, xor_xor_self, xor_xor_self]

/-! ### One flipped bit -/

theorem crcFold_cons (a : Word) (b : Byte) (p : List Byte) : crcFold a (b :: p) = crcFold (crcUpdate a b) p := rfl

/-- A difference in the accumulator goes through eight shift steps for each byte that follows, whatever the bytes are. -/
theorem crcFold_xor (a d : Word) (p : List Byte) : crcFold (a ^^^ d) p = crcFold a p ^^^ crcShifts (8 * p.length) d := by
  induction p generalizing a d with
  | nil => rfl
  | cons b p ih =>
    have hb : crcUpdate (a ^^^ d) b = crcUpdate a b ^^^ crcShifts 8 d := by
      simpa [crcUpdate] using crcUpdate_xor a d b 0
    rw [crcFold_cons, hb, ih, ← crcShifts_add, crcFold_cons, List.length_cons, Nat.mul_succ, Nat.add_comm]

theorem crcFold_flipBit (a : Word) {p : List Byte} {k : Nat} (i : Nat) (hk : k < p.length) :
    crcFold a (flipBit p k i) =
      crcFold a p ^^^ crcShifts (8 * (p.length - k)) ((1#8 <<< i).setWidth 32) := by
  induction p generalizing a k with
  | nil => cases hk
  | cons b p ih =>
    cases k with
    | zero =>
      have hb : crcUpdate a (b ^^^ 1#8 <<< i) = crcUpdate a b ^^^ crcShifts 8 ((1#8 <<< i).setWidth 32) := by
        simpa [crcUpdate] using crcUpdate_xor a 0 b (1#8 <<< i)
      show crcFold (crcUpdate a (b ^^^ 1#8 <<< i)) p = _
      rw [hb, crcFold_xor, ← crcShifts_add, crcFold_cons, Nat.sub_zero, List.length_cons, Nat.mul_succ, Nat.add_comm]
    | succ k =>
      have hrest := ih (crcUpdate a b) (Nat.lt_of_succ_lt_succ hk)
      rwa [List.length_cons, Nat.succ_sub_succ]

/-- The first `i` shift steps bring bit `i` down to bit 0. -/
theorem crcShifts_bit {i m : Nat} (hi : i < 8) (hm : i ≤ m) :
    crcShifts m ((1#8 <<< i).setWidth 32) = crcShifts (m - i) 1 := by
  have hbit : ∀ j < 8, crcShifts j ((1#8 <<< j).setWidth 32) = 1 := by decide
  rw [← hbit i hi, ← crcShifts_add, Nat.add_sub_cancel' hm]

/-- One bit, shifted 1 to 120 times, never leaves the low byte 0 (R138). -/
theorem crcShifts_one_low_byte : ∀ m < 121, m ≠ 0 → (crcShifts m 1).setWidth 8 ≠ 0#8 := by
  decide

/-- The flipped bit goes through 1 to 120 shift steps from bit 0 on, so it reaches the low byte. -/
theorem chk8_flipBit {p : List Byte} {k i : Nat} (hp : p.length ≤ 15) (hk : k < p.length) (hi : i < 8) :
    chk8 (flipBit p k i) ≠ chk8 p := by
  have hlow := crcShifts_one_low_byte (8 * (p.length - k) - i) (by omega) (by omega)
  rw [chk8, crcFold_flipBit _ i hk, crcShifts_bit hi (by omega), crcCheck_xor, ← chk8]
  intro h
  exact hlow (BitVec.xor_right_inj (chk8 p) |>.mp (h.trans BitVec.xor_zero.symm))

/-! ### A whole frame decoded -/

/-- The payload bytes are taken one by one (R157). -/
theorem decodeBody_payload (p q : List Byte) (a : List RxAnswer) :
    decodeBody q.length p (byteAnswers q ++ a) = decodeBody 0 (p ++ q) a := by
  induction q generalizing p with
  | nil => rw [List.append_nil]; rfl
  | cons b q ih => rw [List.append_cons, ← ih]; rfl

/-- A start marker, a length byte and as many bytes bring `DECODE` to the check byte (R155 to R157). -/
theorem decodeAnswers_payload {p : List Byte} (hp : p.length ≤ 15) (a : List RxAnswer) :
    decodeAnswers (.byte Config.startMarker :: .byte (lenByte (BitVec.ofNat 4 p.length)) :: (byteAnswers p ++ a)) =
      decodeBody 0 p a := by
  simp only [decodeAnswers, if_true, decodeLen, takeByte, lenOfByte_lenByte, ofNat4_toNat hp]
  exact decodeBody_payload [] p a

/-- `DECODE` of one frame with any check byte (R159). -/
theorem decodeAnswers_frameBytes {p : List Byte} (hp : p.length ≤ 15) (c : Byte) (r : List RxAnswer) :
    decodeAnswers (byteAnswers (frameBytes p c) ++ r) = if c ≠ chk8 p then .error .integrity r else .ok p r := by
  have hbytes : byteAnswers (frameBytes p c) ++ r =
      .byte Config.startMarker :: .byte (lenByte (BitVec.ofNat 4 p.length)) ::
        (byteAnswers p ++ .byte c :: .byte Config.endMarker :: r) := by
    simp [byteAnswers, frameBytes]
  rw [hbytes, decodeAnswers_payload hp]
  rfl

/-- Settles O8: the flipped bit reaches the check byte, and `DECODE` compares that. -/
theorem singleBitPayloadErrorsAreCaught : Obligations.SingleBitPayloadErrorsAreCaught := by
  intro p k i r hp hk hi
  have hchk := chk8_flipBit hp hk hi
  have hlen : (flipBit p k i).length ≤ 15 := by rwa [flipBit, List.length_modify]
  exact ⟨hchk, by rw [decodeAnswers_frameBytes hlen, if_pos hchk.symm]⟩

end Sys2Proof.Machine
end

section
/-! PROOF. The codec as functions (R163 to R168): what each outcome of `DECODE` has consumed, that `DECODE` inverts `ENCODE`, and
what garbage before a frame and flipped bits in its length byte do: `DecodeOutcomesAndConsumption`, `DecodeInvertsEncode`,
`ResynchronisationAndItsLimit`, `LengthByteSelfCheck`. -/

namespace Sys2Proof.Machine

/-! ### Consumption -/

/-- R163's table: what a result of `DECODE` says about the answers `a` it was given. -/
def DecodeResult.consumedFrom (a : List RxAnswer) : DecodeResult → Prop
  | .ok p r => ∃ g, noStart g ∧ p.length ≤ 15 ∧ a = byteAnswers (g ++ encodeFrame p) ++ r
  | .error .framingLen r => ∃ g lb, noStart g ∧ lenOfByte lb = none ∧ a = byteAnswers (g ++ [0x50, lb]) ++ r
  | .error .framingEnd r =>
    ∃ g p c t, noStart g ∧ p.length ≤ 15 ∧ t ≠ 0x45 ∧
      a = byteAnswers (g ++ [0x50, lenByte (BitVec.ofNat 4 p.length)] ++ p ++ [c, t]) ++ r
  | .error .integrity r =>
    ∃ g p c, noStart g ∧ p.length ≤ 15 ∧ c ≠ chk8 p ∧ a = byteAnswers (g ++ frameBytes p c) ++ r
  | .error .readTimeout r => ∃ x, a = byteAnswers x ++ .timeout :: r
  | .error .transport r => ∃ x, a = byteAnswers x ++ .fault :: r
  | .waiting => ∃ x, a = byteAnswers x

theorem byteAnswers_concat (x : List Byte) (b : Byte) (r : List RxAnswer) :
    byteAnswers (x ++ [b]) ++ r = byteAnswers x ++ .byte b :: r := by
  simp [byteAnswers]

/-- R165's hunt is a `take` like the rest of `DECODE`. -/
theorem decodeAnswers_eq_takeByte (a : List RxAnswer) :
    decodeAnswers a = takeByte a fun b r => if b = Config.startMarker then decodeLen r else decodeAnswers r := by
  cases a with
  | nil => rfl
  | cons x r => cases x <;> rfl

/-- A `take` behind the bytes `x` has consumed as the table says, if what follows the byte taken has. -/
theorem takeByte_consumedFrom {x : List Byte} {a : List RxAnswer} {k : Byte → List RxAnswer → DecodeResult}
    (hk : ∀ b r, a = .byte b :: r → (k b r).consumedFrom (byteAnswers (x ++ [b]) ++ r)) :
    (takeByte a k).consumedFrom (byteAnswers x ++ a) := by
  cases a with
  | nil => exact ⟨x, List.append_nil _⟩
  | cons y r =>
    cases y with
    | timeout => exact ⟨x, rfl⟩
    | fault => exact ⟨x, rfl⟩
    | byte b =>
      have hb := hk b r rfl
      rwa [byteAnswers_concat] at hb

/-- Inside a frame behind the garbage `g`, with the payload bytes `p` taken and `m` to come. -/
theorem decodeBody_consumedFrom {g : List Byte} (hg : noStart g) {m : Nat} {p : List Byte} (a : List RxAnswer)
    (h15 : p.length + m ≤ 15) :
    (decodeBody m p a).consumedFrom
      (byteAnswers (g ++ [Config.startMarker, lenByte (BitVec.ofNat 4 (p.length + m))] ++ p) ++ a) := by
  induction m generalizing p a with
  | succ m ih =>
    refine takeByte_consumedFrom fun b r _ => ?_
    have hnext := ih (p := p ++ [b]) r (by simp; omega)
    rwa [← List.append_assoc, List.length_append, List.length_singleton, Nat.add_assoc, Nat.add_comm 1 m] at hnext
  | zero =>
    refine takeByte_consumedFrom fun c r _ => takeByte_consumedFrom fun t r2 _ => ?_
    split_ifs with ht hc
    · exact ⟨g, p, c, t, hg, h15, ht, by simp [Config.startMarker]⟩
    · exact ⟨g, p, c, hg, h15, hc, by simp [frameBytes, not_not.mp ht]⟩
    · exact ⟨g, hg, h15, by simp [encodeFrame, frameBytes, not_not.mp ht, not_not.mp hc]⟩

/-- Behind the garbage `g` and a start marker. -/
theorem decodeLen_consumedFrom {g : List Byte} (hg : noStart g) (a : List RxAnswer) :
    (decodeLen a).consumedFrom (byteAnswers (g ++ [Config.startMarker]) ++ a) := by
  refine takeByte_consumedFrom fun lb r _ => ?_
  split
  next hl => exact ⟨g, lb, hg, hl, by simp [Config.startMarker]⟩
  next n hl =>
    have hbody := decodeBody_consumedFrom hg (p := []) (m := n.toNat) r (by simpa using Nat.le_of_lt_succ n.isLt)
    simpa [lenByte_of_lenOfByte hl] using hbody

/-- Behind the garbage `g` alone. -/
theorem decodeAnswers_consumedFrom {g : List Byte} (hg : noStart g) (a : List RxAnswer) :
    (decodeAnswers a).consumedFrom (byteAnswers g ++ a) := by
  induction a generalizing g with
  | nil => exact ⟨g, List.append_nil _⟩
  | cons x a ih =>
    rw [decodeAnswers_eq_takeByte]
    refine takeByte_consumedFrom fun b r hbr => ?_
    obtain ⟨-, rfl⟩ := List.cons.inj hbr
    split_ifs with hb
    · rw [hb]; exact decodeLen_consumedFrom hg a
    · exact ih fun c hc => (List.mem_append.mp hc).elim (hg c) fun hc => by rwa [List.mem_singleton.mp hc]

/-- Settles O13, by the invariant of the bytes consumed through hunt, length byte and body. -/
theorem decodeOutcomesAndConsumption : Obligations.DecodeOutcomesAndConsumption :=
  fun a => decodeAnswers_consumedFrom (g := []) nofun a

/-! ### `DECODE` after `ENCODE` -/

/-- Settles O10: the check byte of an encoded frame is right. -/
theorem decodeInvertsEncode : Obligations.DecodeInvertsEncode := by
  intro p r hp
  rw [encodeFrame, decodeAnswers_frameBytes hp, if_neg (not_not.mpr rfl)]

/-- The hunt discards garbage free of the start marker (R155). -/
theorem decodeAnswers_skip {g : List Byte} (hg : noStart g) (a : List RxAnswer) :
    decodeAnswers (byteAnswers g ++ a) = decodeAnswers a := by
  induction g with
  | nil => rfl
  | cons b g ih =>
    obtain ⟨hb, hg⟩ := List.forall_mem_cons.mp hg
    rw [← ih hg]
    exact if_neg hb

theorem byteAnswers_inj {x y : List Byte} (h : byteAnswers x = byteAnswers y) : x = y :=
  List.map_injective_iff.mpr (fun _ _ hb => RxAnswer.byte.inj hb) h

/-- Settles O11: the garbage of a recovered frame is that of O13's table, which has no start marker. -/
theorem resynchronisationAndItsLimit : Obligations.ResynchronisationAndItsLimit := by
  refine ⟨fun g p r hp => ⟨fun h => ?_, fun hg => ?_⟩, fun p r => ?_⟩
  · have hconsumed := decodeAnswers_consumedFrom (g := []) nofun (byteAnswers (g ++ encodeFrame p) ++ r)
    rw [h] at hconsumed
    obtain ⟨g', hg', -, hbytes⟩ := hconsumed
    have hgarbage : g = g' := List.append_cancel_right (byteAnswers_inj (List.append_cancel_right hbytes))
    rw [hgarbage]
    exact hg'
  · rw [byteAnswers, List.map_append, List.append_assoc]
    exact (decodeAnswers_skip hg _).trans (decodeInvertsEncode p r hp)
  · exact decodeAnswers_illegalLength (lb := 0x50) (by decide) _

/-! ### The length byte -/

/-- A flipped bit changes one nibble and not the other (R168). -/
theorem lenOfByte_flip_bit (n : Nibble) : ∀ i < 8, lenOfByte (lenByte n ^^^ (1#8 <<< i)) = none := by
  revert n; decide

/-- Flipped together, bits `i` and `i + 4` change both nibbles alike (R168). -/
theorem lenOfByte_flip_pair (n : Nibble) :
    ∀ i < 4, lenOfByte (lenByte n ^^^ (1#8 <<< i) ^^^ (1#8 <<< (i + 4))) = some (n ^^^ (1#4 <<< i)) := by
  revert n; decide

/-- Settles O12, by the two computed tables. -/
theorem lengthByteSelfCheck : Obligations.LengthByteSelfCheck :=
  ⟨fun n i r hi => decodeAnswers_illegalLength (lenOfByte_flip_bit n i hi) r, lenOfByte_flip_pair⟩

end Sys2Proof.Machine
end

section
/-! PROOF. The send sequence (R152, R194): one `TxPut` a step, from the start marker to the trailer:
`SendSequenceEmitsFrameAndTrailer`. -/

namespace Sys2Proof.Machine

/-! ### One byte a step -/

/-- The block sends on an open Session with nothing scheduled and no reply due, so that each step of it is a `TxPut`. -/
def State.sends (s : State) : Prop :=
  s.txnState = .send ∧ s.sessState ≠ .closed ∧ s.schedule = [] ∧ s.cmdPhase ≠ .replyDue

/-- The bytes `out` have been put, and the answers to `TxPut` still to come are `n` times `Ok` and then `tx` (R62). -/
def State.puts (s : State) (out : List Byte) (n : Nat) (tx : List LineAnswer) : State :=
  { s with txStream := s.txStream ++ out, txAnswers := List.replicate n .ok ++ tx, waiting := false }

theorem State.puts_puts (s : State) (out out' : List Byte) (n n' : Nat) (tx tx' : List LineAnswer) :
    (s.puts out n tx).puts out' n' tx' = s.puts (out ++ out') n' tx' := by
  simp only [State.puts, List.append_assoc]

/-- What the encoder does after `Ok` does not depend on the streams (R152). -/
theorem State.encAdvance_puts (s : State) (b : Byte) (out : List Byte) (n : Nat) (tx : List LineAnswer) :
    (s.puts out n tx).encAdvance b = (s.encAdvance b).puts out n tx := by
  cases he : s.encState <;> simp only [State.encAdvance, State.puts, he]

/-- A step whose `TxPut` is answered `Ok` puts the byte the encoder offers (R62, R152). -/
theorem step_puts_byte {s : State} {b : Byte} {n : Nat} {tx : List LineAnswer} (h : s.sends) (hb : s.encByte = some b)
    (ha : s.txAnswers = List.replicate (n + 1) .ok ++ tx) : step s = .next ((s.encAdvance b).puts [b] n tx) := by
  obtain ⟨hx, hsess, hsched, hcmd⟩ := h
  have he : s.encState ≠ .idle := by
    intro he
    rw [State.encByte, he] at hb
    exact nomatch hb
  have hput : s.txPut b = some (.ok, s.puts [b] n tx) := by
    rw [List.replicate_succ, List.cons_append] at ha
    simp only [State.txPut, ha, State.puts]
  rw [step_block hcmd hsched, State.blockStep_send hx (.inl hsess)]
  simp only [State.sendStep, if_neg he, hb, hput, s.encAdvance_puts]

/-- From `s` to `t` the encoder offers the bytes `bs`, one a step, were each put (R152). -/
inductive Emits : State → List Byte → State → Prop where
  | nil (s : State) : Emits s [] s
  | cons {s t : State} {b : Byte} {bs : List Byte} (hs : s.sends) (hb : s.encByte = some b)
      (h : Emits (s.encAdvance b) bs t) : Emits s (b :: bs) t

theorem Emits.append {s t u : State} {bs cs : List Byte} (h : Emits s bs t) (h' : Emits t cs u) :
    Emits s (bs ++ cs) u := by
  induction h with
  | nil => exact h'
  | cons hs hb _ ih => exact .cons hs hb (ih h')

/-- With an `Ok` for each, the bytes the encoder offers are put one a step. -/
theorem Emits.run_puts {s t : State} {bs : List Byte} (h : Emits s bs t) (out : List Byte) (tx : List LineAnswer) :
    run bs.length (s.puts out bs.length tx) = .next (t.puts (out ++ bs) 0 tx) := by
  induction h generalizing out with
  | nil => rw [List.append_nil]; rfl
  | @cons s t b bs hs hb _ ih =>
    have hstep : step (s.puts out (bs.length + 1) tx) = .next ((s.encAdvance b).puts (out ++ [b]) bs.length tx) := by
      rw [step_puts_byte (s := s.puts out (bs.length + 1) tx) hs hb rfl, State.encAdvance_puts, State.puts_puts]
    rw [List.length_cons, run_succ hstep, ih, ← List.append_cons]

/-! ### The request -/

/-- The encoder with the first `k` payload bytes put and covered by the checksum (R152). -/
def State.inRequest (s : State) (k : Nat) : State :=
  { s with
    encIdx := BitVec.ofNat 4 k, crcAcc := crcFold crcInitial (s.request.take k),
    encState := if k = s.reqLen.toNat then .chk else .payload }

theorem ofNat4_eq_iff {k : Nat} {n : Nibble} (h : k ≤ 15) : BitVec.ofNat 4 k = n ↔ k = n.toNat := by
  rw [← BitVec.toNat_inj, ofNat4_toNat h]

theorem State.request_length (s : State) : s.request.length = s.reqLen.toNat := by
  have := s.reqLen.isLt
  simp [State.request]; omega

theorem State.request_getElem? (s : State) {k : Nat} (h : k < s.reqLen.toNat) : s.request[k]? = s.reqBuf[k]? := by
  simp [State.request, h]

/-- Behind the length byte the encoder is at the first payload byte or, there being none, at the check byte. -/
theorem State.encAdvance_len (s : State) (b : Byte) :
    { s with encState := .len }.encAdvance b = s.inRequest 0 := by
  have h0 : (s.reqLen = 0) = (0 = s.reqLen.toNat) := propext (eq_comm.trans (ofNat4_eq_iff (Nat.zero_le 15)))
  simp only [State.encAdvance, State.inRequest, h0, List.take_zero, crcFold_nil]
  rfl

/-- A payload byte put is covered, and the encoder is at the next one or at the check byte. -/
theorem State.encAdvance_payload {s : State} {k : Nat} {b : Byte} (hk : k < s.reqLen.toNat)
    (hb : s.request[k]? = some b) : (s.inRequest k).encAdvance b = s.inRequest (k + 1) := by
  have hlast : (BitVec.ofNat 4 (k + 1) = s.reqLen) = (k + 1 = s.reqLen.toNat) :=
    propext (ofNat4_eq_iff (by omega))
  simp only [State.encAdvance, State.inRequest, if_neg (Nat.ne_of_lt hk), ofNat4_succ, hlast, crcFold_take_succ hb]

theorem State.encByte_payload {s : State} {k : Nat} (hk : k < s.reqLen.toNat) :
    (s.inRequest k).encByte = s.request[k]? := by
  have hidx : (BitVec.ofNat 4 k).toNat = k := ofNat4_toNat (by omega)
  simp only [State.encByte, State.inRequest, if_neg (Nat.ne_of_lt hk), hidx, s.request_getElem? hk]

/-- The payload bytes from index `k` on are offered in order (R152). -/
theorem Emits.payload {s : State} (h : s.sends) {k : Nat} (hk : k ≤ s.reqLen.toNat) :
    Emits (s.inRequest k) (s.request.drop k) (s.inRequest s.reqLen.toNat) := by
  induction hk using Nat.decreasingInduction with
  | self => rw [← s.request_length, List.drop_length]; exact .nil _
  | of_succ k hk ih =>
    have hlt : k < s.request.length := by rwa [s.request_length]
    have hb : s.request[k]? = some s.request[k] := List.getElem?_eq_getElem hlt
    rw [List.drop_eq_getElem_cons hlt]
    exact .cons h ((State.encByte_payload hk).trans hb) (by rwa [State.encAdvance_payload hk hb])

/-- The state of `s` after its send: hunting for the reply (R193). -/
def State.sent (s : State) : State :=
  { s with
    encState := .idle, encIdx := s.reqLen, crcAcc := crcFold crcInitial s.request, txnState := .await,
    decState := .hunt }

/-- Behind the payload come the check byte, the end marker and the trailer (R152, R194). -/
theorem Emits.trailer {s : State} (h : s.sends) :
    Emits (s.inRequest s.reqLen.toNat) [chk8 s.request, Config.endMarker, trailerCr, trailerLf] s.sent := by
  have hchk : s.inRequest s.reqLen.toNat =
      { s with encState := .chk, encIdx := s.reqLen, crcAcc := crcFold crcInitial s.request } := by
    have hall : s.request.take s.reqLen.toNat = s.request := by rw [← s.request_length, List.take_length]
    simp only [State.inRequest, if_true, hall, BitVec.ofNat_toNat, BitVec.setWidth_eq]
  rw [hchk]
  exact .cons h rfl (.cons h rfl (.cons h rfl (.cons h rfl (.nil _))))

/-- What an attempt puts, by the registers the encoder reads (R194). -/
theorem State.sentBytes_request (s : State) :
    sentBytes s.request =
      Config.startMarker :: lenByte s.reqLen ::
        (s.request ++ [chk8 s.request, Config.endMarker, trailerCr, trailerLf]) := by
  have hlen : BitVec.ofNat 4 s.request.length = s.reqLen := by
    rw [s.request_length, BitVec.ofNat_toNat, BitVec.setWidth_eq]
  simp [sentBytes, encodeFrame, frameBytes, hlen]

/-- Behind the start marker the rest of the frame and the trailer are offered. -/
theorem Emits.frame {s : State} (h : s.sends) :
    Emits { s with encState := .len }
      (lenByte s.reqLen :: (s.request ++ [chk8 s.request, Config.endMarker, trailerCr, trailerLf])) s.sent := by
  refine .cons h rfl ?_
  rw [s.encAdvance_len]
  exact (Emits.payload h (Nat.zero_le _)).append (Emits.trailer h)

/-- Settles O14: the start marker is put by the first step, the rest by `Emits.frame`. -/
theorem sendSequenceEmitsFrameAndTrailer : Obligations.SendSequenceEmitsFrameAndTrailer := by
  intro s tx hx he hsess hsched hcmd ha
  have h : s.sends := ⟨hx, hsess, hsched, hcmd⟩
  have hb : s.encByte = some Config.startMarker := by rw [State.encByte, he]
  have hfirst : step s = .next ({ s with encState := .len }.puts [Config.startMarker] (s.reqLen.toNat + 5) tx) := by
    rw [step_puts_byte h hb ha, State.encAdvance, he]
  have hrest := (Emits.frame h).run_puts [Config.startMarker] tx
  rw [List.singleton_append, ← s.sentBytes_request, List.length_cons, List.length_append, s.request_length] at hrest
  exact (run_succ hfirst _).trans hrest

end Sys2Proof.Machine
end

section
/-! PROOF. The byte-serial decoder against `DECODE` (R154 to R165, R193, R195, R196), a simulation with a lemma for each part of
the function, one `take` a step: `StepwiseDecodeAgreesWithFunction`. -/

namespace Sys2Proof.Machine

/-! ### Agreement -/

/-- `v` stands in the same attempt as `s`, with the same bytes put and the same log. -/
def State.sameAttempt (s v : State) : Prop :=
  v.attempt = s.attempt ∧ v.log = s.log ∧ v.txStream = s.txStream

/-- In `t` the engine has reacted, in the attempt of `s`, to a result of `DECODE` (R193). -/
def State.endsAs (s t : State) : DecodeResult → Prop
  | .ok (b :: q) rest =>
    t.rxStream = rest ∧ t.received = b :: q ∧ t.txnState = .idle ∧ t.decState = .idle ∧ t.resTag = .success ∧
      t.attempt = s.attempt ∧ t.txStream = s.txStream
  | .ok [] rest => t.rxStream = rest ∧ s.failedInto t .emptyReply ∧ t.txStream = s.txStream
  | .error e rest =>
    match e.cause with
    | some c => t.rxStream = rest ∧ s.failedInto t c ∧ t.txStream = s.txStream
    | none =>
      t.rxStream = rest ∧ t.fatal = true ∧ t.lastErr = .transport ∧ t.resTag = .fatal ∧ t.txnState = .idle ∧
        t.decState = .idle ∧ t.txStream = s.txStream
  | .waiting => t.rxStream = [] ∧ t.txnState = .await ∧ t.waiting = true ∧ step t = .next t

/-- The steps from `v` on end as the result says, in the attempt of `s`. -/
def State.agreesFrom (s v : State) (r : DecodeResult) : Prop :=
  ∃ k t, run k v = .next t ∧ s.endsAs t r

theorem State.endsAs.agreesFrom {s t : State} {r : DecodeResult} (h : s.endsAs t r) : s.agreesFrom t r :=
  ⟨0, t, rfl, h⟩

theorem State.agreesFrom_of_step {s v u : State} {r : DecodeResult} (hstep : step v = .next u)
    (h : s.agreesFrom u r) : s.agreesFrom v r := by
  obtain ⟨k, t, hrun, hend⟩ := h
  exact ⟨k + 1, t, (run_succ hstep k).trans hrun, hend⟩

/-! ### The engine's reactions -/

/-- Operations that move no byte leave the RX and TX streams. -/
theorem State.rxStream_of_streams {s t : State} (h : t.streams = s.streams) :
    t.rxStream = s.rxStream ∧ t.txStream = s.txStream := by
  obtain ⟨htx, hin, hrx, -, -⟩ := Streams.mk.inj h
  exact ⟨by rw [State.rxStream, hin, hrx]; rfl, htx⟩

/-- A failed attempt leaves the streams and is recorded, in whatever state of the attempt it comes (R322). -/
theorem State.failAttempt_endsAs {s v : State} (h : s.sameAttempt v) (c : Cause) :
    (v.failAttempt c).rxStream = v.rxStream ∧ s.failedInto (v.failAttempt c) c ∧
      (v.failAttempt c).txStream = s.txStream := by
  obtain ⟨hattempt, hlog, htx⟩ := h
  obtain ⟨hrx', htx'⟩ := State.rxStream_of_streams (v.failAttempt_streams c)
  have hfailed := v.failAttempt_failedInto c
  rw [State.failedInto, hattempt, hlog] at hfailed
  exact ⟨hrx', hfailed, htx'.trans htx⟩

/-- A decoder error that is a failed attempt (R193). -/
theorem State.failAttempt_agrees {s v : State} (h : s.sameAttempt v) {e : DecodeError} {c : Cause}
    (he : e.cause = some c) : s.agreesFrom (v.failAttempt c) (.error e v.rxStream) := by
  refine State.endsAs.agreesFrom ?_
  simp only [State.endsAs, he]
  exact State.failAttempt_endsAs h c

/-- A transport error (R200). -/
theorem State.transportError_agrees {s v : State} (h : s.sameAttempt v) :
    s.agreesFrom v.transportError (.error .transport v.rxStream) := by
  obtain ⟨-, -, htx⟩ := h
  obtain ⟨hrx', htx'⟩ := State.rxStream_of_streams v.transportError_streams
  obtain ⟨hx, htag, hfatal, herr, -⟩ := v.transportError_ends
  have hd : v.transportError.decState = .idle := by rw [State.transportError, State.finish_frame]
  exact State.endsAs.agreesFrom ⟨hrx', hfatal, herr, htag, hx, hd, htx'.trans htx⟩

/-- A success (R199). -/
theorem State.succeed_agrees {s v : State} (h : s.sameAttempt v) {b : Byte} {q : List Byte} (hr : v.received = b :: q) :
    s.agreesFrom v.succeed (.ok (b :: q) v.rxStream) := by
  obtain ⟨hattempt, -, htx⟩ := h
  refine State.endsAs.agreesFrom ?_
  rcases v.succeed_cases with ⟨-, hs⟩ | ⟨-, hs⟩ <;> rw [hs]
  · exact ⟨rfl, hr, rfl, rfl, rfl, hattempt, htx⟩
  · exact ⟨rfl, hr, rfl, rfl, rfl, hattempt, htx⟩

/-! ### One `take` -/

/-- An answer of the RX stream is taken; `ib` and `ra` are left (R61). -/
def State.took (s : State) (ib : List Byte) (ra : List RxAnswer) : State :=
  { s with inputBuffer := ib, rxAnswers := ra, waiting := false }

theorem State.sameAttempt.took {s v : State} (h : s.sameAttempt v) (ib : List Byte) (ra : List RxAnswer) :
    s.sameAttempt (v.took ib ra) :=
  h

/-- An awaiting block's step is the decoder's (R193). -/
theorem step_awaiting {v : State} (h : v.awaiting) : step v = v.awaitStep := by
  obtain ⟨hx, hsess, hsched, hcmd⟩ := h
  rw [step_block hcmd hsched, State.blockStep_await hx (.inl hsess)]

/-- With no answer the machine stands still (R372). -/
theorem State.waiting_agrees {s v : State} (h : v.awaiting) (hd : v.decState ≠ .idle) (hr : v.rxStream = []) :
    s.agreesFrom v .waiting := by
  have hwaits : { v with waiting := true }.awaiting := h
  exact State.agreesFrom_of_step ((step_awaiting h).trans (State.awaitStep_unanswered hd hr))
    (State.endsAs.agreesFrom
      ⟨hr, h.1, rfl, (step_awaiting hwaits).trans (State.awaitStep_unanswered (s := { v with waiting := true }) hd hr)⟩)

/-- One `take` is one step: the two agree if they do behind the byte taken (R165). -/
theorem State.takeByte_agrees {s v : State} (h : v.awaiting) (hd : v.decState ≠ .idle) (hs : s.sameAttempt v)
    {k : Byte → List RxAnswer → DecodeResult}
    (hk : ∀ b ib ra, v.rxStream = .byte b :: (byteAnswers ib ++ ra) →
      ∃ u, (v.took ib ra).decByte b = .next u ∧ s.agreesFrom u (k b (byteAnswers ib ++ ra))) :
    s.agreesFrom v (takeByte v.rxStream k) := by
  rcases v.awaitStep_cases with ⟨hi, -⟩ | ⟨-, hr, -⟩ | ⟨-, a, ib, ra, hr, -, hstep⟩
  · exact absurd hi hd
  · rw [hr]; exact State.waiting_agrees h hd hr
  · rw [← step_awaiting h] at hstep
    rw [hr]
    cases a with
    | byte b =>
      obtain ⟨u, hu, hagrees⟩ := hk b ib ra hr
      exact State.agreesFrom_of_step (hstep.trans hu) hagrees
    | timeout => exact State.agreesFrom_of_step hstep (State.failAttempt_agrees (hs.took ib ra) (e := .readTimeout) rfl)
    | fault => exact State.agreesFrom_of_step hstep (State.transportError_agrees (hs.took ib ra))

/-! ### The parts of `DECODE` -/

theorem State.decByte_hunt {s : State} (hd : s.decState = .hunt) (b : Byte) :
    s.decByte b = .next (if b = Config.startMarker then { s with decState := .len } else s) := by
  simp only [State.decByte, hd]

theorem State.decByte_length {s : State} {b : Byte} {n : Nibble} (hd : s.decState = .len) (hl : lenOfByte b = some n) :
    s.decByte b = .next (s.beginFrame n) := by
  simp only [State.decByte, hd, hl]

theorem State.decByte_illegalLength {s : State} {b : Byte} (hd : s.decState = .len) (hl : lenOfByte b = none) :
    s.decByte b = .next (s.failAttempt .framingLen) := by
  simp only [State.decByte, hd, hl]

/-- The byte in the end marker's place, and the checks behind it (R159, R196). -/
theorem State.endMark_agrees {s v : State} (hs : s.sameAttempt v) {p : List Byte} (hp : p.length ≤ 15) (c t : Byte) :
    ∃ u, (v.takeFrame p c).decByte t = .next u ∧
      s.agreesFrom u
        (if t ≠ Config.endMarker then .error .framingEnd v.rxStream
         else if c ≠ chk8 p then .error .integrity v.rxStream
         else .ok p v.rxStream) := by
  have hframe : s.sameAttempt (v.takeFrame p c) := hs
  refine ⟨_, rfl, ?_⟩
  by_cases ht : t = Config.endMarker
  · rw [if_pos ht, if_neg (not_not.mpr ht)]
    by_cases hc : c = chk8 p
    · subst hc
      rw [if_neg (not_not.mpr rfl)]
      cases p with
      | nil =>
        rw [v.endFrame_takeFrame_empty]
        exact State.endsAs.agreesFrom (State.failAttempt_endsAs hframe .emptyReply)
      | cons b q =>
        rw [v.endFrame_takeFrame_valid (List.cons_ne_nil b q) hp]
        exact State.succeed_agrees hframe (v.takeFrame_received _ hp)
    · rw [if_pos hc, v.endFrame_takeFrame_corrupt hc]
      exact State.failAttempt_agrees hframe rfl
  · rw [if_neg ht, if_pos ht]
    exact State.failAttempt_agrees hframe rfl

/-- Inside a frame of length `n`, with the payload bytes `p` taken and `m` to come (R157 to R159). -/
theorem State.decodeBody_agrees {s v : State} (hs : s.sameAttempt v) (h : v.awaiting) {n m : Nat} {p : List Byte}
    (hn : p.length + m = n) (h15 : n ≤ 15) (ib : List Byte) :
    s.agreesFrom (v.inFrame n p ib) (decodeBody m p (v.inFrame n p ib).rxStream) := by
  induction m generalizing v p ib with
  | succ m ih =>
    have hlt : p.length < n := by omega
    refine State.takeByte_agrees (h.inFrame ..) (by rw [v.inFrame_payload ib hlt]; nofun) hs fun b ib' ra _ => ?_
    have hnext : (p ++ [b]).length + m = n := by simp; omega
    exact ⟨_, State.decByte_inFrame_payload (v.took ib' ra) b ib' hlt h15, ih (v := v.took ib' ra) hs h hnext ib'⟩
  | zero =>
    obtain rfl : p.length = n := hn
    refine State.takeByte_agrees (h.inFrame ..) (by rw [v.inFrame_chk ib rfl]; nofun) hs fun c ib' ra _ =>
      ⟨_, State.decByte_inFrame_chk (v.took ib' ra) p c ib', ?_⟩
    have hchecked : ((v.took ib' ra).takeFrame p c).awaiting := h
    exact State.takeByte_agrees hchecked nofun hs fun t ib'' ra' _ =>
      State.endMark_agrees (v := v.took ib'' ra') hs h15 c t

/-- At the length byte (R156). -/
theorem State.decodeLen_agrees {s v : State} (hs : s.sameAttempt v) (h : v.awaiting) (hd : v.decState = .len) :
    s.agreesFrom v (decodeLen v.rxStream) := by
  refine State.takeByte_agrees h (by rw [hd]; nofun) hs fun lb ib ra _ => ?_
  cases hl : lenOfByte lb with
  | none =>
    exact ⟨_, State.decByte_illegalLength (s := v.took ib ra) hd hl,
      State.failAttempt_agrees (hs.took ib ra) (e := .framingLen) rfl⟩
  | some n =>
    have hn : n.toNat ≤ 15 := Nat.le_of_lt_succ n.isLt
    have hbegin : (v.took ib ra).beginFrame n = (v.took ib ra).inFrame n.toNat [] ib := by
      have hlen := State.beginFrame_eq_inFrame (s := v.took ib ra) hn rfl
      rwa [BitVec.ofNat_toNat, BitVec.setWidth_eq] at hlen
    refine ⟨_, State.decByte_length (s := v.took ib ra) hd hl, ?_⟩
    rw [hbegin]
    exact State.decodeBody_agrees (v := v.took ib ra) hs h (Nat.zero_add _) hn ib

/-- Hunting (R155). -/
theorem State.decodeAnswers_agrees {s v : State} (hs : s.sameAttempt v) (h : v.awaiting) (hd : v.decState = .hunt)
    {a : List RxAnswer} (ha : v.rxStream = a) : s.agreesFrom v (decodeAnswers a) := by
  have hne : v.decState ≠ .idle := by rw [hd]; nofun
  induction a generalizing v with
  | nil => exact State.waiting_agrees h hne ha
  | cons x a ih =>
    rw [decodeAnswers_eq_takeByte, ← ha]
    refine State.takeByte_agrees h hne hs fun b ib ra hr => ⟨_, State.decByte_hunt (s := v.took ib ra) hd b, ?_⟩
    obtain ⟨-, rfl⟩ := List.cons.inj (ha.symm.trans hr)
    split_ifs
    · exact State.decodeLen_agrees (v := { v.took ib ra with decState := .len }) hs h rfl
    · exact ih (v := v.took ib ra) hs h hd rfl hne

/-- Settles O15: the two agree from the hunt on. -/
theorem stepwiseDecodeAgreesWithFunction : Obligations.StepwiseDecodeAgreesWithFunction := by
  intro s h
  obtain ⟨k, t, hrun, hend⟩ := State.decodeAnswers_agrees (s := s) ⟨rfl, rfl, rfl⟩ h.awaiting h.decState rfl
  generalize decodeAnswers s.rxStream = r at hend ⊢
  match r with
  | .ok (b :: q) rest => exact ⟨k, t, hrun, hend⟩
  | .ok [] rest => exact ⟨k, t, hrun, hend⟩
  | .error e rest => cases e <;> exact ⟨k, t, hrun, hend⟩
  | .waiting => exact ⟨k, t, hrun, hend⟩

end Sys2Proof.Machine
end

section
/-! PROOF. A `Timeout` answered to an `RxTake` (R161, R196 to R198, R322, R323): `TimeoutIsAFailedAttempt`. -/

namespace Sys2Proof.Machine

/-- The answer that stands first when the input buffer is empty is the decoder's (R61, R154). -/
theorem State.awaitStep_answer {s : State} {a : RxAnswer} {rest : List RxAnswer} (hd : s.decState ≠ .idle)
    (hi : s.inputBuffer = []) (ha : s.rxAnswers = a :: rest) :
    s.awaitStep = { s with rxAnswers := rest, waiting := false }.awaitAnswer a := by
  simp only [State.awaitStep, if_neg hd, State.rxTake, hi, ha]

/-- An attempt before the third is followed by the next (R323). -/
theorem State.failAttempt_early {s : State} (h : s.attempt ≠ 3) (c : Cause) :
    s.failAttempt c =
      { s with
        decState := .idle, lastErr := c, log := s.log ++ [(s.attempt, c)], attempt := s.attempt + 1,
        txnState := .send, encState := .start, waiting := false } := by
  rcases s.failAttempt_cases c with ⟨h3, -⟩ | ⟨-, hf⟩
  · exact absurd h3 h
  · exact hf

/-- The third of an `EXECUTE` returns to the host (R190, R198). -/
theorem State.failAttempt_third_execute {s : State} (h3 : s.attempt = 3) (hp : s.cmdPhase = .none) (c : Cause) :
    s.failAttempt c =
      { s with
        decState := .idle, lastErr := c, log := s.log ++ [(3, c)], resTag := .exhausted, txnState := .idle,
        results := s.results ++ [.exhausted] } := by
  rcases s.failAttempt_cases c with ⟨-, hf⟩ | ⟨hn, -⟩
  · rw [hf, State.finish, hp]; rfl
  · exact absurd h3 hn

/-- The third of a `COMMAND` leaves its reply due (R198, R209; log 5). -/
theorem State.failAttempt_third_command {s : State} (h3 : s.attempt = 3) (hp : s.cmdPhase = .running) (c : Cause) :
    s.failAttempt c =
      { s with
        decState := .idle, lastErr := c, log := s.log ++ [(3, c)], resTag := .exhausted, txnState := .idle,
        cmdPhase := .replyDue } := by
  rcases s.failAttempt_cases c with ⟨-, hf⟩ | ⟨hn, -⟩
  · rw [hf, State.finish, hp]
  · exact absurd h3 hn

/-- Settles O43: the step is `failAttempt` with the answer taken, in each of its three cases. -/
theorem timeoutIsAFailedAttempt : Obligations.TimeoutIsAFailedAttempt := by
  intro s rest h hx hopen hs hi ha
  have hstep : step s = .next ({ s with rxAnswers := rest, waiting := false }.failAttempt .readTimeout) := by
    rw [step_block (h.cmdPhase_ne_replyDue (by rw [hx]; nofun)) hs, State.blockStep_await hx hopen,
      State.awaitStep_answer (h.decState_ne_idle hx) hi ha]
    rfl
  rw [hstep]
  exact ⟨fun hn => congrArg _ (State.failAttempt_early (s := { s with rxAnswers := rest, waiting := false }) hn _),
    fun h3 hp => congrArg _
      (State.failAttempt_third_execute (s := { s with rxAnswers := rest, waiting := false }) h3 hp _),
    fun h3 hp => congrArg _
      (State.failAttempt_third_command (s := { s with rxAnswers := rest, waiting := false }) h3 hp _)⟩

end Sys2Proof.Machine
end

section
/-! PROOF. One attempt of an `EXECUTE` (R193 to R197): its send sequence, then its decode, and what its steps keep; from that
`ThreeFailuresExhaust` (R205). -/

namespace Sys2Proof.Machine

open Host (Outcome)

/-! ### What the steps of an `EXECUTE` keep -/

/-- `v` follows `s` in an `EXECUTE` on an open Session, nothing being scheduled: the request is the same, and the host has been
given the outcome exactly if there is one (R190, R192). -/
def State.executes (s v : State) : Prop :=
  v.schedule = [] ∧ v.cmdPhase = .none ∧ v.sessState = .active ∧ v.reqBuf = s.reqBuf ∧ v.reqLen = s.reqLen ∧
    (v.txnState ≠ .idle → v.resTag = .none ∧ v.results = s.results) ∧
    (v.txnState = .idle → v.results = s.results ++ [v.executeResult])

/-- The end of the transaction gives the outcome to the host (R190). -/
theorem State.executes.finish {s v : State} (h : s.executes v) (hv : v.txnState ≠ .idle) {u : State}
    (hu : u = { v with
      decState := u.decState, encState := u.encState, txnState := .idle, resTag := u.resTag, lastErr := u.lastErr,
      fatal := u.fatal, log := u.log, waiting := u.waiting }) : s.executes u.finish := by
  obtain ⟨hsched, hcmd, hsess, hbuf, hlen, hgoing, -⟩ := h
  rw [hu]
  simp only [State.finish, hcmd]
  exact ⟨hsched, rfl, hsess, hbuf, hlen, fun hx => absurd rfl hx, fun _ => congrArg (· ++ _) (hgoing hv).2⟩

/-- A change inside the transaction gives no outcome. -/
theorem State.executes.going {s v u : State} (h : s.executes v) (hv : v.txnState ≠ .idle) (hu : u.txnState ≠ .idle)
    (heq : u = { v with
      crcAcc := u.crcAcc, encState := u.encState, encIdx := u.encIdx, decState := u.decState, txnState := u.txnState,
      attempt := u.attempt, lastErr := u.lastErr, log := u.log, waiting := u.waiting }) : s.executes u := by
  obtain ⟨hsched, hcmd, hsess, hbuf, hlen, hgoing, -⟩ := h
  rw [heq]
  exact ⟨hsched, hcmd, hsess, hbuf, hlen, fun _ => hgoing hv, fun hx => absurd hx hu⟩

/-- No reaction of the block leaves the `EXECUTE`, and one that ends it returns the outcome. -/
theorem Reaction.executes {s v t : State} (hr : Reaction v t) (h : s.executes v) (hx : v.txnState ≠ .idle) :
    s.executes t := by
  cases hr with
  | fault => exact h.finish hx rfl
  | @failed c =>
    rcases v.failAttempt_cases c with ⟨-, hf⟩ | ⟨-, hf⟩ <;> rw [hf]
    · exact h.finish hx rfl
    · exact h.going hx nofun rfl
  | @put b =>
    refine h.going hx (State.encAdvance_not_idle hx b) ?_
    unfold State.encAdvance
    cases v.encState <;> rfl
  | ended => exact h.finish hx rfl
  | length | stored =>
    obtain ⟨hsched, hcmd, hsess, hbuf, hlen, hgoing, -⟩ := h
    exact ⟨hsched, hcmd, hsess, hbuf, hlen, fun _ => hgoing hx, fun hi => absurd hi hx⟩
  | ignored | started | checked => exact h

/-- The bytes put from `s` to `v` have each used one `Ok`; no other answer to `TxPut` is used but by a fatal end (R62). -/
def State.paid (s v : State) : Prop :=
  v.resTag = .fatal ∨
    ∃ n, s.txAnswers = List.replicate n .ok ++ v.txAnswers ∧ v.txStream.length = s.txStream.length + n

theorem State.paid_of_same {s v : State} (hput : v.txAnswers = s.txAnswers) (htx : v.txStream = s.txStream) :
    s.paid v :=
  .inr ⟨0, hput.symm, congrArg List.length htx⟩

theorem State.paid.trans {s v t : State} (h : s.paid v) (h' : v.paid t) (hv : v.resTag ≠ .fatal) : s.paid t := by
  obtain htag | ⟨n, hn, hlen⟩ := h
  · exact absurd htag hv
  obtain htag | ⟨m, hm, hlen'⟩ := h'
  · exact .inl htag
  · exact .inr ⟨n + m, by rw [hn, hm, List.replicate_add, List.append_assoc], by omega⟩

/-- What a call of the block in `v` can come to: nothing, where no sequencer runs; it waits; or the block reacts to its
answer, and has paid for the byte it put (R61, R62). -/
def State.callsInto (v t : State) : Prop :=
  t = v ∨ t = { v with waiting := true } ∨ ∃ m, Reaction (v.afterCall m) t ∧ v.paid t

theorem State.sendStep_callsInto {v t : State} (h : v.sendStep = .next t) : v.callsInto t := by
  rcases v.sendStep_cases with ⟨-, hs⟩ | ⟨-, -, hs⟩ | ⟨b, hbyte, ⟨-, hs⟩ | ⟨rest, -, hs⟩ | ⟨rest, ha, hs⟩⟩ <;>
    rw [hs] at h <;> cases h
  · exact .inl rfl
  · exact .inr (.inl rfl)
  · obtain ⟨-, htag, -⟩ := State.transportError_ends { v with txAnswers := rest, waiting := false }
    exact .inr (.inr ⟨{ v.streams with put := rest }, .fault, .inl htag⟩)
  · have hstreams := (v.afterCall { v.streams with put := rest, tx := v.txStream ++ [b] }).encAdvance_streams b
    have hput : v.txAnswers = List.replicate 1 .ok ++ _ := ha.trans (congrArg _ (congrArg Streams.put hstreams).symm)
    have htx := congrArg List.length (congrArg Streams.tx hstreams)
    exact .inr (.inr ⟨{ v.streams with put := rest, tx := v.txStream ++ [b] }, .put hbyte,
      .inr ⟨1, hput, htx.trans List.length_append⟩⟩)

theorem State.awaitStep_callsInto {v t : State} (h : v.awaitStep = .next t) : v.callsInto t := by
  rcases v.awaitStep_cases with ⟨-, hs⟩ | ⟨-, -, hs⟩ | ⟨hd, a, ib, ra, -, -, hs⟩ <;> rw [hs] at h
  · cases h; exact .inl rfl
  · cases h; exact .inr (.inl rfl)
  · have hstreams := State.awaitAnswer_streams h
    exact .inr (.inr ⟨{ v.streams with input := ib, rx := ra }, State.awaitAnswer_reaction hd h,
      State.paid_of_same (congrArg Streams.put hstreams) (congrArg Streams.tx hstreams)⟩)

/-- In an `EXECUTE` every step is the block's own: none once the outcome is there, else a call (R193, R332). -/
theorem State.executes.step_cases {s v t : State} (h : s.executes v) (hstep : step v = .next t) :
    t = v ∨ (v.txnState ≠ .idle ∧ v.callsInto t) := by
  obtain ⟨hsched, hcmd, hsess, -⟩ := h
  rw [step_block (by rw [hcmd]; nofun) hsched] at hstep
  rcases v.blockStep_cases with ⟨-, hb⟩ | ⟨-, hc, -⟩ | ⟨hx, -, hb⟩ | ⟨hx, -, hb⟩
  · rw [hb] at hstep; cases hstep; exact .inl rfl
  · rw [hsess] at hc; cases hc
  · exact .inr ⟨by rw [hx]; nofun, State.sendStep_callsInto (hb.symm.trans hstep)⟩
  · exact .inr ⟨by rw [hx]; nofun, State.awaitStep_callsInto (hb.symm.trans hstep)⟩

/-- A step of an `EXECUTE` stays in it, and pays for the byte it puts. -/
theorem State.executes.step {s r v t : State} (h : s.executes v) (hp : r.paid v) (hstep : step v = .next t) :
    s.executes t ∧ r.paid t := by
  rcases h.step_cases hstep with rfl | ⟨hx, rfl | rfl | ⟨m, hr, hpaid⟩⟩
  · exact ⟨h, hp⟩
  · exact ⟨h, hp⟩
  · exact ⟨h, hp⟩
  · have hgoing : v.resTag ≠ .fatal := by
      obtain ⟨-, -, -, -, -, hgoing, -⟩ := h
      rw [(hgoing hx).1]; nofun
    exact ⟨hr.executes h hx, hp.trans hpaid hgoing⟩

/-- The steps of an `EXECUTE` stay in it, and pay for the bytes they put. -/
theorem State.executes.run {s r v t : State} {k : Nat} (h : s.executes v) (hp : r.paid v) (hrun : run k v = .next t) :
    s.executes t ∧ r.paid t := by
  induction k generalizing v with
  | zero => cases hrun; exact ⟨h, hp⟩
  | succ k ih =>
    cases hstep : Machine.step v with
    | next u =>
      rw [run_succ hstep] at hrun
      obtain ⟨hu, hpu⟩ := h.step hp hstep
      exact ih hu hpu hrun
    | fault f => simp only [Machine.run, hstep] at hrun; cases hrun
    | refused r => simp only [Machine.run, hstep] at hrun; cases hrun

theorem run_add {s t : State} {k : Nat} (h : run k s = .next t) (n : Nat) : run (k + n) s = run n t := by
  induction k generalizing s with
  | zero => cases h; rw [Nat.zero_add]
  | succ k ih =>
    cases hstep : step s with
    | next u =>
      rw [run_succ hstep] at h
      rw [Nat.add_right_comm, run_succ hstep, ih h]
    | fault f => simp only [run, hstep] at h; cases h
    | refused r => simp only [run, hstep] at h; cases h

/-! ### The send sequence of an attempt -/

theorem Emits.puts {s t : State} {bs : List Byte} (h : Emits s bs t) (out : List Byte) (n : Nat)
    (tx : List LineAnswer) : Emits (s.puts out n tx) bs (t.puts out n tx) := by
  induction h with
  | nil => exact .nil _
  | cons hs hb _ ih => exact .cons hs hb (by rwa [State.encAdvance_puts])

/-- With an `Ok` for `m` bytes the block comes to offer the next (R152). -/
theorem Emits.run_before {s t : State} {bs : List Byte} (h : Emits s bs t) {m : Nat} (hm : m < bs.length)
    {tx : List LineAnswer} (ha : s.txAnswers = List.replicate m .ok ++ tx) :
    ∃ w b, run m s = .next w ∧ w.sends ∧ w.encByte = some b ∧ w.txAnswers = tx := by
  induction m generalizing s t bs with
  | zero =>
    cases h with
    | nil => exact absurd hm (Nat.lt_irrefl 0)
    | cons hs hb _ => exact ⟨s, _, rfl, hs, hb, ha⟩
  | succ m ih =>
    cases h with
    | nil => exact absurd hm (Nat.not_lt_zero _)
    | @cons _ _ b _ hs hb h =>
      rw [run_succ (step_puts_byte hs hb ha)]
      exact ih (h.puts [b] m tx) (Nat.lt_of_succ_lt_succ hm) rfl

/-- The whole attempt is offered from its start (R194). -/
theorem Emits.attempt {s : State} (h : s.sends) (he : s.encState = .start) : Emits s (sentBytes s.request) s.sent := by
  rw [s.sentBytes_request]
  refine .cons h (by rw [State.encByte, he]) ?_
  rw [State.encAdvance, he]
  exact Emits.frame h

theorem sentBytes_length (p : List Byte) : (sentBytes p).length = p.length + 6 := by
  simp [sentBytes, encodeFrame, frameBytes_length]

/-- An attempt of an `EXECUTE` is about to put its first byte (R193). -/
def State.attempts (v : State) : Prop :=
  v.executes v ∧ v.txnState = .send ∧ v.encState = .start

theorem State.attempts.executes {v : State} (h : v.attempts) : v.executes v := by
  obtain ⟨hexec, -, -⟩ := h
  exact hexec

theorem State.attempts.encState {v : State} (h : v.attempts) : v.encState = .start := by
  obtain ⟨-, -, he⟩ := h
  exact he

theorem State.attempts.sends {v : State} (h : v.attempts) : v.sends := by
  obtain ⟨⟨hsched, hcmd, hsess, -⟩, hx, -⟩ := h
  exact ⟨hx, by rw [hsess]; nofun, hsched, by rw [hcmd]; nofun⟩

theorem State.attempts.run {v t : State} (h : v.attempts) {k : Nat} (hrun : Machine.run k v = .next t) : v.executes t :=
  (h.executes.run (State.paid_of_same rfl rfl) hrun).1

/-- A `Fault` answered to a `TxPut` (R200). -/
theorem State.sendStep_answeredFault {s : State} {b : Byte} {rest : List LineAnswer} (he : s.encState ≠ .idle)
    (hb : s.encByte = some b) (ha : s.txAnswers = .fault :: rest) :
    s.sendStep = .next { s with txAnswers := rest, waiting := false }.transportError := by
  simp only [State.sendStep, if_neg he, hb, State.txPut, ha]

theorem State.sends.step_eq {s : State} (h : s.sends) : step s = s.sendStep := by
  obtain ⟨hx, hsess, hsched, hcmd⟩ := h
  rw [step_block hcmd hsched, State.blockStep_send hx (.inl hsess)]

theorem State.encState_of_encByte {s : State} {b : Byte} (hb : s.encByte = some b) : s.encState ≠ .idle := by
  intro he
  rw [State.encByte, he] at hb
  exact nomatch hb

/-! ### One attempt -/

/-- The state after a send of the attempt with `Ok` to every byte, `tx` being left (R152, R193). -/
def State.afterSend (v : State) (tx : List LineAnswer) : State :=
  v.sent.puts (sentBytes v.request) 0 tx

theorem State.attempts.run_send {v : State} (h : v.attempts) {tx : List LineAnswer}
    (ha : v.txAnswers = List.replicate (sentBytes v.request).length .ok ++ tx) :
    Machine.run (sentBytes v.request).length v = .next (v.afterSend tx) := by
  obtain ⟨hx, hsess, hsched, hcmd⟩ := h.sends
  rw [sentBytes_length, v.request_length] at ha ⊢
  exact sendSequenceEmitsFrameAndTrailer v tx hx h.encState hsess hsched hcmd ha

/-- The send over, the attempt goes as `DECODE` does (R165, R193). -/
theorem State.attempts.run_decode {v : State} (h : v.attempts) {tx : List LineAnswer}
    (ha : v.txAnswers = List.replicate (sentBytes v.request).length .ok ++ tx) :
    ∃ k t, Machine.run k v = .next t ∧ (v.afterSend tx).endsAs t (decodeAnswers v.rxStream) ∧ v.executes t ∧
      (v.afterSend tx).paid t := by
  have hsend := h.run_send ha
  have hawaiting : (v.afterSend tx).awaiting := ⟨rfl, h.sends.2⟩
  obtain ⟨k, t, hrun, hend⟩ := State.decodeAnswers_agrees (s := v.afterSend tx) ⟨rfl, rfl, rfl⟩ hawaiting rfl rfl
  obtain ⟨hexec, hpaid⟩ := (h.run hsend).run (State.paid_of_same rfl rfl) hrun
  exact ⟨_, t, (run_add hsend k).trans hrun, hend, hexec, hpaid⟩

/-- The causes and the rests of R196: an empty frame, or an error that is no transport error. -/
theorem failedDecode_cases {a r : List RxAnswer} {c : Cause} (h : failedDecode a = some (c, r)) :
    (decodeAnswers a = .ok [] r ∧ c = .emptyReply) ∨ ∃ e, decodeAnswers a = .error e r ∧ e.cause = some c := by
  unfold failedDecode at h
  split at h
  · cases h
  · cases h; exact .inl ⟨‹_›, rfl⟩
  · cases h
  next e r' hd =>
    obtain ⟨c', hc, hcr⟩ := Option.map_eq_some_iff.mp h
    cases hcr
    exact .inr ⟨e, hd, hc⟩

/-- `DECODE` succeeds, meets a transport error or waits, if it is no failed attempt (R193). -/
theorem failedDecode_none {a : List RxAnswer} (h : failedDecode a = none) :
    (∃ b q r, decodeAnswers a = .ok (b :: q) r) ∨ (∃ r, decodeAnswers a = .error .transport r) ∨
      decodeAnswers a = .waiting := by
  unfold failedDecode at h
  split at h
  next hd => exact .inr (.inr hd)
  · cases h
  next b q r hd => exact .inl ⟨b, q, r, hd⟩
  next e r hd =>
    cases e
    case transport => exact .inr (.inl ⟨r, hd⟩)
    all_goals cases h

/-- A failed attempt does not end fatally (R322). -/
theorem State.executes.resTag_ne_fatal {s v t : State} (h : s.executes t) {c : Cause} (hf : v.failedInto t c) :
    t.resTag ≠ .fatal := by
  obtain ⟨-, -, -, -, -, hgoing, -⟩ := h
  obtain ⟨-, -, -, hthird, hearly⟩ := hf
  by_cases h3 : v.attempt = 3
  · obtain ⟨-, htag, -⟩ := hthird h3
    rw [htag]; nofun
  · obtain ⟨hx, -⟩ := hearly h3
    obtain ⟨htag, -⟩ := hgoing (by rw [hx]; nofun)
    rw [htag]; nofun

/-- An attempt whose send is answered `Ok` throughout and whose decode fails (R193 to R196): the request has been put once, one
decode's answers are taken, and the failure is recorded. -/
theorem State.attempts.run_failed {v : State} (h : v.attempts) {tx : List LineAnswer} {a : List RxAnswer} {c : Cause}
    (ha : v.txAnswers = List.replicate (sentBytes v.request).length .ok ++ tx)
    (hf : failedDecode v.rxStream = some (c, a)) :
    ∃ k t, Machine.run k v = .next t ∧ v.executes t ∧ v.failedInto t c ∧ t.rxStream = a ∧ t.txAnswers = tx ∧
      t.txStream = v.txStream ++ sentBytes v.request := by
  obtain ⟨k, t, hrun, hend, hexec, hpaid⟩ := h.run_decode ha
  have hfailed : t.rxStream = a ∧ v.failedInto t c ∧ t.txStream = v.txStream ++ sentBytes v.request := by
    rcases failedDecode_cases hf with ⟨hd, rfl⟩ | ⟨e, hd, hc⟩ <;> rw [hd] at hend
    · exact hend
    · simp only [State.endsAs, hc] at hend
      exact hend
  obtain ⟨hrx, hinto, htx⟩ := hfailed
  refine ⟨k, t, hrun, hexec, hinto, hrx, ?_, htx⟩
  obtain htag | ⟨n, hn, hlen⟩ := hpaid
  · exact absurd htag (hexec.resTag_ne_fatal hinto)
  · obtain rfl : n = 0 := by
      have hput : t.txStream.length = (v.afterSend tx).txStream.length := congrArg List.length htx
      omega
    exact hn.symm

/-- Behind a failed attempt before the third the next begins, with the same request (R197, R323). -/
theorem State.attempts.retry {v : State} (h : v.attempts) (h3 : v.attempt ≠ 3) {tx : List LineAnswer}
    {a : List RxAnswer} {c : Cause} (ha : v.txAnswers = List.replicate (sentBytes v.request).length .ok ++ tx)
    (hf : failedDecode v.rxStream = some (c, a)) :
    ∃ k t, Machine.run k v = .next t ∧ t.attempts ∧ t.request = v.request ∧ t.attempt = v.attempt + 1 ∧
      t.results = v.results ∧ t.log = v.log ++ [(v.attempt, c)] ∧ t.rxStream = a ∧ t.txAnswers = tx ∧
      t.txStream = v.txStream ++ sentBytes v.request := by
  obtain ⟨k, t, hrun, hexec, ⟨-, hlog, -, -, hearly⟩, hrx, htx, hstream⟩ := h.run_failed ha hf
  obtain ⟨hx, he, hattempt⟩ := hearly h3
  have hne : t.txnState ≠ .idle := by rw [hx]; nofun
  obtain ⟨hsched, hcmd, hsess, hbuf, hlen, hgoing, -⟩ := hexec
  obtain ⟨htag, hresults⟩ := hgoing hne
  have hrequest : t.request = v.request := by rw [State.request, hbuf, hlen, State.request]
  exact ⟨k, t, hrun, ⟨⟨hsched, hcmd, hsess, rfl, rfl, fun _ => ⟨htag, rfl⟩, fun hi => absurd hi hne⟩, hx, he⟩,
    hrequest, hattempt, hresults, hlog, hrx, htx, hstream⟩

/-- An admitted `EXECUTE` begins its first attempt (R191 to R193). -/
theorem State.admits.attempts {s : State} (h : s.admits) {p : List Byte} (hp : p.length ≤ 15) (hs : s.schedule = []) :
    ∃ u, exec (.raw p) s = .next u ∧ u.attempts ∧ u.attempt = 1 ∧ u.request = p ∧ u.log = s.log ∧
      u.results = s.results ∧ u.txAnswers = s.txAnswers ∧ u.rxStream = s.rxStream ∧ u.txStream = s.txStream :=
  ⟨_, congrArg Outcome.next (State.execute_of_admits h hp),
    ⟨⟨hs, rfl, rfl, rfl, rfl, fun _ => ⟨rfl, rfl⟩, nofun⟩, rfl, rfl⟩,
    rfl, State.latch_request _ hp, rfl, rfl, rfl, rfl, rfl⟩

/-! ### The three attempts -/

/-- Settles O18: the first two attempts are retried, the third fails. -/
theorem threeFailuresExhaust : Obligations.ThreeFailuresExhaust := by
  intro s p tx c1 c2 c3 a1 a2 a3 hadm hp hs htx hf1 hf2 hf3
  obtain ⟨u, hu, h1, hn1, rfl, hlog1, -, htx1, hrx1, hst1⟩ := hadm.attempts hp hs
  have hthree : 3 * (u.request.length + 6) =
      (sentBytes u.request).length + ((sentBytes u.request).length + (sentBytes u.request).length) := by
    rw [sentBytes_length]; omega
  rw [← htx1, hthree, List.replicate_add, List.replicate_add, List.append_assoc, List.append_assoc] at htx
  rw [← hrx1] at hf1
  obtain ⟨k1, v, hrun1, h2, hreq2, hn2, -, hlog2, rfl, htx2, hst2⟩ := h1.retry (by rw [hn1]; decide) htx hf1
  rw [hn1] at hn2 hlog2
  rw [← hreq2] at htx2
  obtain ⟨k2, w, hrun2, h3, hreq3, hn3, -, hlog3, rfl, htx3, hst3⟩ := h2.retry (by rw [hn2]; decide) htx2 hf2
  rw [hn2] at hn3 hlog3
  rw [← hreq3] at htx3
  obtain ⟨k3, t, hrun3, -, ⟨herr, hlog, -, hthird, -⟩, hrx, htx, hst⟩ := h3.run_failed htx3 hf3
  obtain ⟨hx, htag, hattempt⟩ := hthird hn3
  refine ⟨u, k1 + (k2 + k3), t, hu, (run_add hrun1 _).trans ((run_add hrun2 _).trans hrun3), hx, htag, hattempt, herr,
    ?_, ?_, htx, hrx⟩
  · rw [hlog, hlog3, hlog2, hlog1, hn3]; simp
  · rw [hst, hst3, hst2, hst1, hreq3, hreq2]

end Sys2Proof.Machine
end

section
/-! PROOF. `EXECUTE` against `EXEC` (R212), by induction on the attempts that are left: `ExecuteAgreesWithFunction`. -/

namespace Sys2Proof.Machine

/-! ### The result of an `EXECUTE` -/

/-- In `t` the `EXECUTE` that `s` is in has ended with the result, or stands still where that is waiting (R190, R212). -/
def State.returns (s t : State) : ExecResult → Prop
  | .success q =>
    t.txnState = .idle ∧ t.resTag = .success ∧ t.received = q ∧ t.results = s.results ++ [.success q]
  | .exhausted => t.txnState = .idle ∧ t.resTag = .exhausted ∧ t.attempt = 3 ∧ t.results = s.results ++ [.exhausted]
  | .transportFatal =>
    t.txnState = .idle ∧ t.resTag = .fatal ∧ t.fatal = true ∧ t.results = s.results ++ [.transportFatal]
  | .waiting => t.txnState ≠ .idle ∧ t.resTag = .none ∧ step t = .next t

/-- The steps from `v` on end with the result of the `EXECUTE` that `s` is in. -/
def State.concludes (s v : State) (r : ExecResult) : Prop :=
  ∃ k t, run k v = .next t ∧ s.returns t r

theorem State.concludes_of_run {s v w : State} {k : Nat} {r : ExecResult} (hrun : run k v = .next w)
    (h : s.concludes w r) : s.concludes v r := by
  obtain ⟨n, t, ht, hret⟩ := h
  exact ⟨k + n, t, (run_add hrun n).trans ht, hret⟩

/-- Of the state the `EXECUTE` began in only what the host had been given counts. -/
theorem State.concludes.of_results {s s' v : State} {r : ExecResult} (h : s.concludes v r)
    (hresults : s.results = s'.results) : s'.concludes v r := by
  obtain ⟨k, t, hrun, hret⟩ := h
  refine ⟨k, t, hrun, ?_⟩
  cases r <;> simpa only [State.returns, hresults] using hret

/-- What the host has been given once the transaction is over (R190). -/
theorem State.executes.results_eq {s t : State} (h : s.executes t) (hx : t.txnState = .idle) :
    t.results = s.results ++ [t.executeResult] := by
  obtain ⟨-, -, -, -, -, -, hended⟩ := h
  exact hended hx

theorem State.executes.returns_success {s t : State} (h : s.executes t) (hx : t.txnState = .idle)
    (htag : t.resTag = .success) : s.returns t (.success t.received) :=
  ⟨hx, htag, rfl, by rw [h.results_eq hx, State.executeResult, htag]⟩

theorem State.executes.returns_exhausted {s t : State} (h : s.executes t) (hx : t.txnState = .idle)
    (htag : t.resTag = .exhausted) (h3 : t.attempt = 3) : s.returns t .exhausted :=
  ⟨hx, htag, h3, by rw [h.results_eq hx, State.executeResult, htag]⟩

theorem State.executes.returns_fatal {s t : State} (h : s.executes t) (hx : t.txnState = .idle)
    (htag : t.resTag = .fatal) (hfatal : t.fatal = true) : s.returns t .transportFatal :=
  ⟨hx, htag, hfatal, by rw [h.results_eq hx, State.executeResult, htag]⟩

theorem State.executes.returns_waiting {s t : State} (h : s.executes t) (hx : t.txnState ≠ .idle)
    (hstep : Machine.step t = .next t) : s.returns t .waiting := by
  obtain ⟨-, -, -, -, -, hgoing, -⟩ := h
  exact ⟨hx, (hgoing hx).1, hstep⟩

/-! ### The last attempt -/

/-- The answers `n` calls of `TxPut` get: `Ok` each, or `m < n` times `Ok` and then a `Fault` or nothing (R62, R212). -/
theorem sendAnswers_cases (n : Nat) (a : List LineAnswer) :
    (∃ r, a = List.replicate n .ok ++ r ∧ sendAnswers n a = some (.ok, r)) ∨
    ∃ m < n, (∃ r, a = List.replicate m .ok ++ .fault :: r ∧ sendAnswers n a = some (.fault, r)) ∨
      (a = List.replicate m .ok ++ [] ∧ sendAnswers n a = none) := by
  induction n generalizing a with
  | zero => exact .inl ⟨a, rfl, rfl⟩
  | succ n ih =>
    cases a with
    | nil => exact .inr ⟨0, Nat.succ_pos n, .inr ⟨rfl, rfl⟩⟩
    | cons x a =>
      cases x with
      | fault => exact .inr ⟨0, Nat.succ_pos n, .inl ⟨a, rfl, rfl⟩⟩
      | ok =>
        rcases ih a with ⟨r, ha, hs⟩ | ⟨m, hm, ⟨r, ha, hs⟩ | ⟨ha, hs⟩⟩
        · exact .inl ⟨r, by rw [ha]; rfl, hs⟩
        · exact .inr ⟨m + 1, Nat.succ_lt_succ hm, .inl ⟨r, by rw [ha]; rfl, hs⟩⟩
        · exact .inr ⟨m + 1, Nat.succ_lt_succ hm, .inr ⟨by rw [ha]; rfl, hs⟩⟩

/-- A `Fault` in the send ends the `EXECUTE` (R200). -/
theorem State.attempts.send_fault {v : State} (h : v.attempts) {m : Nat} (hm : m < (sentBytes v.request).length)
    {rest : List LineAnswer} (ha : v.txAnswers = List.replicate m .ok ++ .fault :: rest) :
    v.concludes v .transportFatal := by
  obtain ⟨w, b, hrun, hw, hb, haw⟩ := (Emits.attempt h.sends h.encState).run_before hm ha
  have hstep := hw.step_eq.trans (State.sendStep_answeredFault (State.encState_of_encByte hb) hb haw)
  have hrun' := (run_add hrun 1).trans (run_succ hstep 0)
  obtain ⟨hx, htag, hfatal, -⟩ := State.transportError_ends { w with txAnswers := rest, waiting := false }
  exact ⟨m + 1, _, hrun', (h.run hrun').returns_fatal hx htag hfatal⟩

/-- A `TxPut` that is not answered leaves the block waiting (R372). -/
theorem State.attempts.send_waits {v : State} (h : v.attempts) {m : Nat} (hm : m < (sentBytes v.request).length)
    (ha : v.txAnswers = List.replicate m .ok ++ []) : v.concludes v .waiting := by
  obtain ⟨w, b, hrun, hw, hb, haw⟩ := (Emits.attempt h.sends h.encState).run_before hm ha
  have he := State.encState_of_encByte hb
  have hrun' := (run_add hrun 1).trans (run_succ (hw.step_eq.trans (State.sendStep_unanswered he hb haw)) 0)
  have hw' : { w with waiting := true }.sends := hw
  have hstill := hw'.step_eq.trans (State.sendStep_unanswered (s := { w with waiting := true }) he hb haw)
  exact ⟨m + 1, _, hrun', (h.run hrun').returns_waiting (by rw [hw.1]; nofun) hstill⟩

/-- After a failed attempt `EXEC` tries again, if it may (R212). -/
theorem tryAttempts_failed {p : List Byte} {tx tx' : List LineAnswer} {rx rx' : List RxAnswer} {c : Cause}
    (hs : sendAnswers (sentBytes p).length tx = some (.ok, tx')) (hf : failedDecode rx = some (c, rx')) :
    tryAttempts 0 p tx rx = .exhausted ∧ ∀ left, tryAttempts (left + 1) p tx rx = tryAttempts left p tx' rx' := by
  rcases failedDecode_cases hf with ⟨hd, -⟩ | ⟨e, hd, hc⟩
  · exact ⟨by rw [tryAttempts, hs, hd], fun left => by rw [tryAttempts, hs, hd]⟩
  · cases e
    case transport => cases hc
    all_goals exact ⟨by rw [tryAttempts, hs, hd], fun left => by rw [tryAttempts, hs, hd]⟩

/-- A successful decode, and one that meets a transport error or waits, makes the attempt the last (R193, R200). -/
theorem State.attempts.concludes_decoded {v : State} (h : v.attempts) {tx : List LineAnswer}
    (ha : v.txAnswers = List.replicate (sentBytes v.request).length .ok ++ tx)
    (hs : sendAnswers (sentBytes v.request).length v.txAnswers = some (.ok, tx))
    (hf : failedDecode v.rxStream = none) (left : Nat) :
    v.concludes v (tryAttempts left v.request v.txAnswers v.rxStream) := by
  obtain ⟨k, t, hrun, hend, hexec, -⟩ := h.run_decode ha
  refine ⟨k, t, hrun, ?_⟩
  unfold tryAttempts
  rcases failedDecode_none hf with ⟨b, q, r, hd⟩ | ⟨r, hd⟩ | hd <;> rw [hd] at hend <;> simp only [hs, hd]
  · obtain ⟨-, hreceived, hx, -, htag, -⟩ := hend
    rw [← hreceived]
    exact hexec.returns_success hx htag
  · obtain ⟨-, hfatal, -, htag, hx, -⟩ := hend
    exact hexec.returns_fatal hx htag hfatal
  · obtain ⟨-, hx, -, hstill⟩ := hend
    exact hexec.returns_waiting (by rw [hx]; nofun) hstill

/-- An attempt is sent whole and its decode fails, or it is the last, however many are allowed after it (R193, R200). -/
theorem State.attempts.failed_or_last {v : State} (h : v.attempts) :
    (∃ tx c a, v.txAnswers = List.replicate (sentBytes v.request).length .ok ++ tx ∧
      sendAnswers (sentBytes v.request).length v.txAnswers = some (.ok, tx) ∧ failedDecode v.rxStream = some (c, a)) ∨
    ∀ left, v.concludes v (tryAttempts left v.request v.txAnswers v.rxStream) := by
  rcases sendAnswers_cases (sentBytes v.request).length v.txAnswers with
    ⟨tx, ha, hs⟩ | ⟨m, hm, ⟨rest, ha, hs⟩ | ⟨ha, hs⟩⟩
  · cases hf : failedDecode v.rxStream with
    | none => exact .inr (h.concludes_decoded ha hs hf)
    | some x => exact .inl ⟨tx, x.1, x.2, ha, hs, rfl⟩
  · refine .inr fun left => ?_
    unfold tryAttempts
    simp only [hs]
    exact h.send_fault hm ha
  · refine .inr fun left => ?_
    unfold tryAttempts
    simp only [hs]
    exact h.send_waits hm ha

/-- From the start of an attempt, `left` more being allowed after it, the block ends as R212's `try` says. -/
theorem State.attempts.concludes {v : State} (h : v.attempts) {left : Nat} (hl : v.attempt.toNat + left = 3) :
    v.concludes v (tryAttempts left v.request v.txAnswers v.rxStream) := by
  induction left generalizing v with
  | zero =>
    rcases h.failed_or_last with ⟨tx, c, a, ha, hs, hf⟩ | hlast
    · have h3 : v.attempt = 3 := BitVec.eq_of_toNat_eq hl
      obtain ⟨k, t, hrun, hexec, ⟨-, -, -, hthird, -⟩, -⟩ := h.run_failed ha hf
      obtain ⟨hx, htag, hattempt⟩ := hthird h3
      rw [(tryAttempts_failed hs hf).1]
      exact ⟨k, t, hrun, hexec.returns_exhausted hx htag hattempt⟩
    · exact hlast 0
  | succ left ih =>
    rcases h.failed_or_last with ⟨tx, c, a, ha, hs, hf⟩ | hlast
    · have h3 : v.attempt ≠ 3 := by rintro h3; rw [h3] at hl; simp at hl
      obtain ⟨k, t, hrun, hnext, hreq, hattempt, hresults, -, rfl, rfl, -⟩ := h.retry h3 ha hf
      have htry := ih hnext (by rw [hattempt]; bv_omega)
      rw [hreq] at htry
      rw [(tryAttempts_failed hs hf).2]
      exact State.concludes_of_run hrun (htry.of_results hresults)
    · exact hlast (left + 1)

/-- Settles O16: the first attempt of an admitted `EXECUTE` has two more after it. -/
theorem executeAgreesWithFunction : Obligations.ExecuteAgreesWithFunction := by
  intro s p hadm hp hs
  obtain ⟨u, hu, h, hattempt, hreq, -, hresults, htx, hrx, -⟩ := hadm.attempts hp hs
  obtain ⟨k, t, hrun, hret⟩ := (h.concludes (left := 2) (by rw [hattempt]; rfl)).of_results hresults
  rw [hreq, htx, hrx] at hret
  rw [execAnswers]
  generalize tryAttempts 2 p s.txAnswers s.rxStream = r at hret ⊢
  cases r <;> exact ⟨u, k, t, hu, hrun, hret⟩

end Sys2Proof.Machine
end

section
/-! PROOF. Admission and its refusals (R191, R204, R209), the fatal end (R200, R208) and the untagged result (R201):
`ExecuteAdmission`, `BusyOperationsAreRefused`, `CommandOnUnusableLineIsFatal`, `StepRunsTheDecodedReply`,
`TransportFaultIsFatal`, `CloseEndsTheTransaction`, `EmptyLegacyResultMeansExhausted`. -/

namespace Sys2Proof.Machine

open Host (Outcome)

/-! ### Refused while busy -/

theorem State.execute_of_busy {s : State} (h : s.txnState ≠ .idle) (p : List Byte) :
    s.execute p = s.give (.refused .busy) := by
  rcases s.execute_cases p with ⟨-, he⟩ | ⟨hx, -⟩ | ⟨hx, -⟩
  · exact he
  · exact absurd hx h
  · exact absurd hx h

theorem State.command_of_busy {s : State} (h : s.txnState ≠ .idle) (p : List Byte) :
    s.command p = s.give (.refused .busy) := by
  rcases s.command_cases p with ⟨-, he⟩ | ⟨hx, -⟩
  · exact he
  · exact absurd hx h

theorem State.sessionOpen_of_busy {s : State} (h : s.txnState ≠ .idle) (d : List Byte) (b : Nat) :
    s.sessionOpen d b = some (s.give (.refused .busy)) := by
  simp [State.sessionOpen, State.busy, h]

/-- A command of its opcode's shape, row or none, is `COMMAND` of its words (R103, R209). -/
theorem step_command {s : State} {c : Command} {rest : List HostEvent} (hc : s.cmdPhase ≠ .replyDue)
    (hs : s.schedule = .command c :: rest) (hsh : c.ofShape s.params = true) :
    step s = .next ({ s with schedule := rest }.command (build s.params.hat c)) := by
  rw [step_event hc hs, fetchEvent, fetchCommand_of_ofShape (s := { s with schedule := rest }) hsh, runCommand_outcome]

/-- Settles O26: a typed row and a command of any shape are `COMMAND`, a raw form is `EXECUTE`, and each tests `busy` first. -/
theorem busyOperationsAreRefused : Obligations.BusyOperationsAreRefused := by
  intro s h
  refine ⟨fun i hi => ?_, fun c rest hc hs hsh => ?_, fun d b rest hc hs => ?_⟩
  · rcases hi with hi | hi
    · rw [exec_typed i s hi, State.command_of_busy h]; rfl
    · cases i
      case raw p => exact congrArg Outcome.next (State.execute_of_busy h p)
      all_goals exact nomatch hi
  · rw [step_command hc hs hsh, State.command_of_busy (s := { s with schedule := rest }) h]; rfl
  · exact step_sessionOpen hc hs (State.sessionOpen_of_busy (s := { s with schedule := rest }) h d b)

/-! ### An unusable Session -/

/-- The Session is closed, opened but not cleared, or faulted (R191 test 3). -/
theorem State.not_usable {s : State} (h : s.fatal = true ∨ s.sessState = .closed ∨ s.sessState = .opened) :
    s.usable = false := by
  rcases h with h | h | h <;> simp [State.usable, h]

/-- On such a Session the outcome is fatal at once (R191). -/
theorem State.runExecute_of_not_usable {s : State} (h : s.usable = false) (p : List Byte) :
    s.runExecute p = { s with resTag := .fatal, lastErr := .transport }.finish := by
  rcases s.runExecute_cases p with ⟨hu, -⟩ | ⟨-, he⟩
  · rw [h] at hu; cases hu
  · exact he

theorem State.execute_tooLong {s : State} (hx : s.txnState = .idle) {p : List Byte} (hp : 15 < p.length) :
    s.execute p = s.give (.refused .payloadTooLong) := by
  rcases s.execute_cases p with ⟨hb, -⟩ | ⟨-, -, he⟩ | ⟨-, hshort, -⟩
  · exact absurd hx hb
  · exact he
  · omega

theorem State.execute_of_not_usable {s : State} (hx : s.txnState = .idle) {p : List Byte} (hp : p.length ≤ 15)
    (h : s.usable = false) :
    s.execute p =
      { s with
        resTag := .fatal, lastErr := .transport, cmdPhase := .none, results := s.results ++ [.transportFatal] } := by
  rcases s.execute_cases p with ⟨hb, -⟩ | ⟨-, hlong, -⟩ | ⟨-, -, he⟩
  · exact absurd hx hb
  · omega
  · rw [he, State.runExecute_of_not_usable (s := { s with cmdPhase := .none }) h]
    rfl

/-- Settles O25, test by test. -/
theorem executeAdmission : Obligations.ExecuteAdmission := fun _ p =>
  ⟨fun hx => congrArg Outcome.next (State.execute_of_busy hx p),
    fun hx hp => congrArg Outcome.next (State.execute_tooLong hx hp),
    fun hx hp hs => congrArg Outcome.next (State.execute_of_not_usable hx hp (State.not_usable hs)),
    fun hadm hp => congrArg Outcome.next (State.execute_of_admits hadm hp)⟩

/-- The state of a `COMMAND` refused by the Session test, its result being due (R191, R209; log 5). -/
def State.unusableCommand (s : State) (op : Byte) : State :=
  { s with curOp := op, rplKind := .none, cmdPhase := .replyDue, resTag := .fatal, lastErr := .transport }

theorem State.command_of_not_usable {s : State} (hx : s.txnState = .idle)
    (h : s.fatal = true ∨ s.sessState = .closed ∨ s.sessState = .opened) (t : HatTable) (c : Command) :
    s.command (build t c) = s.unusableCommand c.op := by
  have hu : { s with curOp := (build t c).headD 0, rplKind := .none, cmdPhase := .running }.usable = false :=
    State.not_usable h
  rcases s.command_cases (build t c) with ⟨hb, -⟩ | ⟨-, he⟩
  · exact absurd hx hb
  · rw [he, State.runExecute_of_not_usable hu, build_cons]
    rfl

/-- After a fatal outcome no reply is decoded (R280). -/
theorem step_fatal_reply {u : State} (hc : u.cmdPhase = .replyDue) (hr : u.noReset) (htag : u.resTag = .fatal) :
    step u = .next { u with cmdPhase := .none, results := u.results ++ [.transportFatal] } := by
  rw [step_fetchReply hc hr, fetchReply, htag]
  rfl

/-- Settles O27: either form is `COMMAND` of its words, and the step behind it is `REPLY_DECODE` of a fatal outcome. -/
theorem commandOnUnusableLineIsFatal : Obligations.CommandOnUnusableLineIsFatal := by
  intro s hx h
  refine ⟨fun i hi hr => ?_, fun c rest hs hc hsh hr => ?_⟩
  · obtain ⟨c, hcmd⟩ := commandOf_of_typed hi
    have hwords := encode_of_commandOf (P := s.params) hcmd
    refine ⟨c.op, _, s.unusableCommand c.op, hwords.trans (build_cons _ c), ?_, rfl, step_fatal_reply rfl hr rfl⟩
    rw [exec_typed i s hi, hwords, State.command_of_not_usable hx h]
  · refine ⟨_, (step_command hc hs hsh).trans (congrArg Outcome.next ?_), rfl, step_fatal_reply rfl hr rfl⟩
    exact State.command_of_not_usable (s := { s with schedule := rest }) hx h _ c

/-- Settles O24, by `step_reply`. -/
theorem stepRunsTheDecodedReply : Obligations.StepRunsTheDecodedReply :=
  fun _ _ _ h hd => step_reply h hd

/-! ### The fatal end -/

/-- A fatal end goes to the `COMMAND` in progress, or to the host (R200). -/
theorem State.transportError_cases (s : State) :
    (s.cmdPhase = .running ∧
      s.transportError =
        { s with
          fatal := true, lastErr := .transport, resTag := .fatal, encState := .idle, decState := .idle,
          txnState := .idle, waiting := false, cmdPhase := .replyDue }) ∨
    (s.cmdPhase ≠ .running ∧
      s.transportError =
        { s with
          fatal := true, lastErr := .transport, resTag := .fatal, encState := .idle, decState := .idle,
          txnState := .idle, waiting := false, results := s.results ++ [.transportFatal] }) :=
  State.finish_cases { s with
    fatal := true, lastErr := .transport, resTag := .fatal, encState := .idle, decState := .idle, txnState := .idle,
    waiting := false }

/-- Whom a fatal end hands its outcome to, and that it changes nothing else (R200; log 5). -/
theorem State.transportError_hands (s : State) :
    (s.cmdPhase = .none →
      s.transportError.cmdPhase = .none ∧ s.transportError.results = s.results ++ [.transportFatal]) ∧
    (s.cmdPhase = .running → s.transportError.cmdPhase = .replyDue ∧ s.transportError.results = s.results) ∧
    s.transportError =
      { s with
        fatal := true, lastErr := .transport, resTag := .fatal, encState := .idle, decState := .idle,
        txnState := .idle, waiting := false, cmdPhase := s.transportError.cmdPhase,
        results := s.transportError.results } := by
  rcases s.transportError_cases with ⟨hc, h⟩ | ⟨hc, h⟩ <;> rw [h]
  · exact ⟨fun h0 => absurd (hc.symm.trans h0) nofun, fun _ => ⟨rfl, rfl⟩, rfl⟩
  · exact ⟨fun h0 => ⟨h0, rfl⟩, fun hrun => absurd hrun hc, rfl⟩

/-- In a transaction with nothing scheduled a step is the block's own (R193). -/
theorem State.Inv.step_eq {s : State} (h : s.Inv) (hx : s.txnState ≠ .idle) (hs : s.schedule = []) :
    step s = s.blockStep :=
  step_block (h.cmdPhase_ne_replyDue hx) hs

/-- With the Session closed and no call in progress the transaction ends before the next call (R208). -/
theorem State.blockStep_closed {s : State} (hx : s.txnState ≠ .idle) (hc : s.sessState = .closed)
    (hw : s.waiting = false) : s.blockStep = .next s.transportError := by
  rcases s.blockStep_cases with ⟨hi, -⟩ | ⟨-, -, -, hb⟩ | ⟨-, hopen, -⟩ | ⟨-, hopen, -⟩
  · exact absurd hi hx
  · exact hb
  · simp [hc, hw] at hopen
  · simp [hc, hw] at hopen

/-- Settles O44: in either state the fault is the answer to the call, and the rest is `State.transportError_hands`. -/
theorem transportFaultIsFatal : Obligations.TransportFaultIsFatal := by
  rintro s h hs hopen (⟨rest, hx, ha⟩ | ⟨rest, hx, hi, ha⟩)
  · obtain ⟨b, hb⟩ := h.encByte_some hx
    obtain ⟨hnone, hrun, heq⟩ := State.transportError_hands { s with txAnswers := rest, waiting := false }
    refine ⟨_, ?_, fun _ => ?_, fun hw => absurd (hx.symm.trans hw) nofun, hnone, hrun, ?_⟩
    · rw [h.step_eq (by rw [hx]; nofun) hs, State.blockStep_send hx hopen,
        State.sendStep_answeredFault (h.encState_ne_idle hx) hb ha]
    · rw [heq, ha]; exact ⟨rfl, rfl⟩
    · rw [heq]
  · obtain ⟨hnone, hrun, heq⟩ := State.transportError_hands { s with rxAnswers := rest, waiting := false }
    refine ⟨_, ?_, fun hw => absurd (hx.symm.trans hw) nofun, fun _ => ?_, hnone, hrun, ?_⟩
    · rw [h.step_eq (by rw [hx]; nofun) hs, State.blockStep_await hx hopen,
        State.awaitStep_answer (h.decState_ne_idle hx) hi ha, State.awaitAnswer]
    · rw [heq, ha]; exact ⟨rfl, rfl⟩
    · rw [heq]

/-- Settles O46: the Session test comes before the call (R208). -/
theorem closeEndsTheTransaction : Obligations.CloseEndsTheTransaction := by
  intro s h hx hc hw hs
  obtain ⟨hnone, hrun, heq⟩ := s.transportError_hands
  exact ⟨s.transportError, (h.step_eq hx hs).trans (State.blockStep_closed hx hc hw), hnone, hrun,
    by rw [hw]; exact heq⟩

/-! ### The untagged result -/

theorem State.received_length (s : State) : s.received.length = s.decLen.toNat := by
  have := s.decLen.isLt
  simp [State.received]; omega

/-- Settles O53: under the invariant a success has a payload byte. -/
theorem emptyLegacyResultMeansExhausted : Obligations.EmptyLegacyResultMeansExhausted := by
  rintro s ⟨-, -, -, hsuccess, -⟩
  cases htag : s.resTag <;> simp only [State.legacy, htag]
  case success =>
    have hne : s.received ≠ [] := fun h0 =>
      hsuccess htag (BitVec.eq_of_toNat_eq (s.received_length.symm.trans (congrArg List.length h0)))
    simp [hne]
  all_goals simp

end Sys2Proof.Machine
end

section
/-! PROOF. The axes of a stick command: `CLAMP` (R231), the heading transform with its exact rows, its tie and its period (R259),
and the heading pseudo-instructions (R260): `AxisClamp`, `HeadingRows`, `HeadingAlwaysHasAResult`, `HeadingPseudoInstructions`. -/

namespace Sys2Proof.Machine

/-! ### Clamping -/

/-- Settles O56: outside 0 to 255 by the definition's branch, inside by what `axisOf` reads back; the examples are computed. -/
theorem axisClamp : Obligations.AxisClamp := by
  refine ⟨fun v h => if_pos h, fun v h => ?_, fun v h0 h1 => ?_, by decide⟩
  · exact (if_neg (show ¬v < 0 by omega)).trans (if_pos h)
  · exact (axisOf_clamp v).trans (by omega)

/-! ### Rounding -/

/-- Within a quarter of an integer, `ROUND` admits that integer alone. -/
theorem roundsTo_iff_of_near {t : ℝ} {m : Int} (h : |t - m| ≤ 1 / 4) (n : Int) : RoundsTo t n ↔ n = m := by
  unfold RoundsTo
  rw [abs_le] at h ⊢
  refine ⟨fun hn => ?_, fun hn => ?_⟩
  · have hlt : (n : ℝ) < (m + 1 : Int) := by push_cast; linarith
    have hgt : (m : ℝ) < (n + 1 : Int) := by push_cast; linarith
    have := Int.cast_lt.mp hlt
    have := Int.cast_lt.mp hgt
    omega
  · rw [hn]; constructor <;> linarith

/-- An integer is rounded to itself alone. -/
theorem roundsTo_intCast (m n : Int) : RoundsTo m n ↔ n = m :=
  roundsTo_iff_of_near (by norm_num) n

/-- At a tie `ROUND` admits both neighbours. -/
theorem roundsTo_tie (m n : Int) : RoundsTo (m + 1 / 2) n ↔ n = m ∨ n = m + 1 := by
  unfold RoundsTo
  rw [abs_le]
  refine ⟨fun hn => ?_, ?_⟩
  · have hlt : (n : ℝ) < (m + 2 : Int) := by push_cast; linarith
    have hgt : (m : ℝ) < (n + 1 : Int) := by push_cast; linarith
    have := Int.cast_lt.mp hlt
    have := Int.cast_lt.mp hgt
    omega
  · rintro (rfl | rfl)
    · constructor <;> linarith
    · push_cast; constructor <;> linarith

theorem roundsTo_round (t : ℝ) : RoundsTo t (round t) := by
  unfold RoundsTo
  rw [abs_sub_comm]
  exact (abs_sub_round t).trans (by norm_num)

/-! ### The rows of the transform -/

/-- Where both products are integers, one pair of axes is admitted. -/
theorem headingAdmits_iff_of_exact {h e : ℝ} {a b : Int} (hs : Real.sin (h * Real.pi / 180) * e * 127 = a)
    (hc : Real.cos (h * Real.pi / 180) * e * 127 = b) (x y : Int) :
    HeadingAdmits h e x y ↔ x = 128 + a ∧ y = 128 - b := by
  rw [HeadingAdmits, hs, hc, roundsTo_intCast, roundsTo_intCast]
  omega

theorem radians_thirty : (30 : ℝ) * Real.pi / 180 = Real.pi / 6 := by ring

theorem radians_ninety : (90 : ℝ) * Real.pi / 180 = Real.pi / 2 := by ring

theorem radians_halfTurn : (180 : ℝ) * Real.pi / 180 = Real.pi := by ring

theorem radians_threeQuarters : (270 : ℝ) * Real.pi / 180 = Real.pi / 2 + Real.pi := by ring

theorem radians_add_turn (h : ℝ) : (h + 360) * Real.pi / 180 = h * Real.pi / 180 + 2 * Real.pi := by ring

/-- R259's row of heading 90 and extent 1. -/
theorem headingAdmits_ninety (x y : Int) : HeadingAdmits 90 1 x y ↔ x = 255 ∧ y = 128 :=
  headingAdmits_iff_of_exact (a := 127) (b := 0) (by norm_num [radians_ninety]) (by norm_num [radians_ninety]) x y

/-- `127 cos 30` is a little less than 110. -/
theorem cos_thirty_near : |Real.cos (Real.pi / 6) * 1 * 127 - (110 : Int)| ≤ 1 / 4 := by
  have hlo : 1.73 < √(3 : ℝ) := Real.lt_sqrt_of_sq_lt (by norm_num)
  have hhi : √(3 : ℝ) < 1.7325 := (Real.sqrt_lt' (by norm_num)).mpr (by norm_num)
  rw [Real.cos_pi_div_six, abs_le]
  push_cast
  constructor <;> linarith

/-- At heading 30 the horizontal product is the tie 63.5 (R259). -/
theorem headingAdmits_thirty (x y : Int) : HeadingAdmits 30 1 x y ↔ (x = 191 ∨ x = 192) ∧ y = 18 := by
  have htie : Real.sin (Real.pi / 6) * 1 * 127 = (63 : Int) + 1 / 2 := by norm_num
  rw [HeadingAdmits, radians_thirty, htie, roundsTo_tie, roundsTo_iff_of_near cos_thirty_near]
  omega

/-- A heading is reduced by the period of the circle. -/
theorem headingAdmits_add_turn (h e : ℝ) (x y : Int) : HeadingAdmits (h + 360) e x y ↔ HeadingAdmits h e x y := by
  rw [HeadingAdmits, radians_add_turn, Real.sin_add_two_pi, Real.cos_add_two_pi, HeadingAdmits]

/-- Settles O58: the products of each exact row, the tie, and the period. -/
theorem headingRows : Obligations.HeadingRows := by
  refine ⟨headingAdmits_iff_of_exact (a := 0) (b := 127) ?_ ?_, headingAdmits_ninety,
    headingAdmits_iff_of_exact (a := 0) (b := -127) ?_ ?_, headingAdmits_iff_of_exact (a := -127) (b := 0) ?_ ?_,
    fun h => headingAdmits_iff_of_exact (a := 0) (b := 0) ?_ ?_, headingAdmits_iff_of_exact (a := 0) (b := 254) ?_ ?_,
    headingAdmits_thirty, headingAdmits_add_turn⟩
  all_goals norm_num [radians_halfTurn, radians_threeQuarters, Real.sin_add_pi, Real.cos_add_pi]

/-! ### Configuration functions -/

/-- The configuration function that rounds to nearest. -/
noncomputable def HeadingFunction.nearest : HeadingFunction where
  axes h e := (128 + round (Real.sin (h * Real.pi / 180) * e * 127),
    128 - round (Real.cos (h * Real.pi / 180) * e * 127))
  admitted h e := by
    rw [HeadingAdmits, add_sub_cancel_left, sub_sub_cancel]
    exact ⟨roundsTo_round _, roundsTo_round _⟩

/-- The configuration function that gives the admitted pair `p` at `h` and `e`, and `H`'s elsewhere. -/
noncomputable def HeadingFunction.redirect (H : HeadingFunction) {h e : ℝ} {p : Int × Int}
    (hp : HeadingAdmits h e p.1 p.2) : HeadingFunction where
  axes h' e' := if h' = h ∧ e' = e then p else H.axes h' e'
  admitted h' e' := by
    split
    case isTrue heq => rw [heq.1, heq.2]; exact hp
    case isFalse => exact H.admitted h' e'

theorem HeadingFunction.redirect_axes (H : HeadingFunction) {h e : ℝ} {p : Int × Int}
    (hp : HeadingAdmits h e p.1 p.2) : (H.redirect hp).axes h e = p :=
  if_pos ⟨rfl, rfl⟩

/-- Settles O59: rounding to nearest gives a pair; any admitted pair can be put in its place at that heading and extent. -/
theorem headingAlwaysHasAResult : Obligations.HeadingAlwaysHasAResult := fun h e =>
  ⟨⟨_, _, HeadingFunction.nearest.admitted h e⟩, fun x y hxy =>
    ⟨HeadingFunction.nearest.redirect (p := (x, y)) hxy, HeadingFunction.redirect_axes _ _⟩⟩

/-! ### The heading pseudo-instructions -/

/-- The opcode of the stick command a heading form is (R260). -/
def HeadingStick.op : HeadingStick → Byte
  | .moveLeft => opMoveLeftJoy
  | .moveRight => opMoveRightJoy
  | .setLeft => opSetLeftJoy
  | .setRight => opSetRightJoy

theorem commandOf_headingInstr (H : HeadingFunction) (k : HeadingStick) (h e : ℝ) (msec : Option Half) :
    commandOf (headingInstr H k h e msec) = some ⟨k.op, .stk (H.axes h e).1 (H.axes h e).2 msec⟩ := by
  cases k <;> cases msec <;> rfl

theorem encode_headingInstr (P : Params) (H : HeadingFunction) (k : HeadingStick) (h e : ℝ) (msec : Option Half) :
    encode P (headingInstr H k h e msec) = buildStk k.op (H.axes h e).1 (H.axes h e).2 msec :=
  encode_of_commandOf (commandOf_headingInstr H k h e msec)

/-- Whatever the configuration function, at heading 90 and extent 1 it gives the one admitted pair. -/
theorem HeadingFunction.axes_ninety (H : HeadingFunction) : H.axes 90 1 = (255, 128) :=
  Prod.ext_iff.mpr ((headingAdmits_ninety _ _).mp (H.admitted 90 1))

/-- The call of a heading form runs the stick command it is (R209, R260). -/
theorem step_headingInstr {s : State} {rest : List HostEvent} {H : HeadingFunction} {k : HeadingStick} {h e : ℝ}
    {msec : Option Half} (hc : s.cmdPhase ≠ .replyDue) (hsh : shapeOf s.params k.op = some .stk)
    (hs : s.schedule = .call (headingInstr H k h e msec) :: rest) :
    step s = exec (headingInstr H k h e msec) { s with schedule := rest } := by
  have hi := commandOf_headingInstr H k h e msec
  have hof : (headingInstr H k h e msec).ofShape s.params = true := (ofShape_of_commandOf hi).trans (ofShape_iff.mpr hsh)
  rw [step_event hc hs]
  exact congrArg Fetched.outcome
    (fetchCall_run (s := { s with schedule := rest }) (.inl ⟨portOf_of_commandOf hi, hof⟩))

/-- Settles O60: each form is the command `commandOf_headingInstr` gives; the example by `HeadingFunction.axes_ninety`. -/
theorem headingPseudoInstructions : Obligations.HeadingPseudoInstructions := by
  refine fun H P => ⟨fun h e msec => ?_, ?_, fun s h e msec rest hc => ?_⟩
  · exact ⟨encode_headingInstr P H .moveLeft h e msec, encode_headingInstr P H .moveRight h e msec,
      encode_headingInstr P H .setLeft h e msec, encode_headingInstr P H .setRight h e msec⟩
  · rw [encode_headingInstr, H.axes_ninety]; decide
  · exact ⟨fun hsh => ⟨step_headingInstr (k := .moveLeft) hc hsh, step_headingInstr (k := .moveLeft) hc hsh⟩,
      fun hsh => ⟨step_headingInstr (k := .moveRight) hc hsh, step_headingInstr (k := .moveRight) hc hsh⟩,
      fun hsh => ⟨step_headingInstr (k := .setLeft) hc hsh, step_headingInstr (k := .setLeft) hc hsh⟩,
      fun hsh => ⟨step_headingInstr (k := .setRight) hc hsh, step_headingInstr (k := .setRight) hc hsh⟩⟩

end Sys2Proof.Machine
end

section
/-! PROOF. The replies of class `STATE` and `ALIVE` (R281, R283, R284), the conditions of a violation (R286) and the commands
whose transaction failed (R280): `StateReplyDecodes`, `ProtocolViolationConditions`, `AliveReplyIsAnAnswer`,
`UnsuccessfulCommandsReturn`. -/

namespace Sys2Proof.Machine

open Host (Outcome)

/-! ### The payloads that are no reply of their class -/

theorem decodeStatusReply_error_iff {P : Params} {bs : List Byte} :
    (∃ r, decodeStatusReply P bs = .error r) ↔
      bs.length ≠ 1 ∨ ∃ b, bs = [b] ∧ (b.toNat < P.statusBase ∨ P.statusBase + 9 < b.toNat) := by
  rcases bs with _ | ⟨b, _ | ⟨b', bs⟩⟩
  · simp [decodeStatusReply]
  · by_cases hr : b.toNat < P.statusBase ∨ P.statusBase + 9 < b.toNat <;> simp [decodeStatusReply, hr]
  · simp [decodeStatusReply]

theorem decodeStateReply_fourteen {bs : List Byte} (h : bs.length = 14) :
    decodeStateReply bs =
      if bs.head? = some 0x51 then
        .ok (.replyState bs[1] bs[2] bs[3] bs[4] (ube32 bs[5] bs[6] bs[7] bs[8]) (ube32 bs[9] bs[10] bs[11] bs[12]) bs[13])
      else .error .stateEcho := by
  let [q0, q1, q2, q3, q4, q5, q6, q7, q8, q9, q10, q11, q12, q13] := bs
  by_cases hq : q0 = 0x51#8 <;> simp [decodeStateReply, opQueryState, hq]

theorem decodeStateReply_length {bs : List Byte} (h : bs.length ≠ 14) : decodeStateReply bs = .error .stateLength := by
  unfold decodeStateReply
  split
  · exact absurd rfl h
  · rfl

theorem decodeStateReply_error_iff {bs : List Byte} :
    (∃ r, decodeStateReply bs = .error r) ↔ bs.length ≠ 14 ∨ bs.head? ≠ some 0x51 := by
  by_cases hl : bs.length = 14
  · rw [decodeStateReply_fourteen hl]
    split_ifs with he
    · simp [hl, he]
    · exact ⟨fun _ => .inr he, fun _ => ⟨_, rfl⟩⟩
  · simp [decodeStateReply_length hl, hl]

/-! ### Violations -/

/-- A state that returns another result than the violation is no violation. -/
theorem State.ne_violated_of_results {s t : State} {r : HostResult} (ht : t.results = s.results ++ [r])
    (hr : r ≠ .protocolViolation) : (.next t : Outcome State Fault Refusal) ≠ .next s.violated := by
  intro h
  have hres := ht.symm.trans (congrArg State.results (Outcome.next.inj h))
  exact hr (by simpa [State.violated] using hres)

/-- No reply that the decoder reads is run as a violation: each returns an answer of its own class (R281 to R283). -/
theorem exec_decoded_ne_violated {P : Params} {c : ReplyClass} {bs : List Byte} {i : Instr}
    (hd : decode P (.reply c) bs = .ok i) (s : State) : exec i s ≠ .next s.violated := by
  cases c with
  | alive => cases hd; exact State.ne_violated_of_results rfl nofun
  | status =>
    obtain ⟨n, hn, rfl, -⟩ := decodeStatusReply_ok hd
    rw [exec_replyStatus_code (by rw [ofNat4_toNat (by omega)]; exact hn)]
    exact State.ne_violated_of_results rfl nofun
  | state =>
    have hl : bs.length = 14 := by
      by_contra hl
      cases (decodeStateReply_length hl).symm.trans hd
    rw [decode, decodeStateReply_fourteen hl] at hd
    split_ifs at hd
    cases hd
    exact State.ne_violated_of_results rfl nofun

/-- A due reply is a violation exactly when its payload decodes to no reply of its class (R286). -/
theorem step_violated_iff {s : State} {c : ReplyClass} (h : s.replyReady c) :
    step s = .next s.violated ↔ ∃ r, decode s.params (.reply c) s.received = .error r := by
  refine ⟨fun hv => ?_, fun ⟨_, hd⟩ => step_reply_violation h hd⟩
  cases hd : decode s.params (.reply c) s.received with
  | error r => exact ⟨r, rfl⟩
  | ok i => exact absurd ((step_reply h hd).symm.trans hv) (exec_decoded_ne_violated hd s)

/-- Settles O41: the payloads each class's decoder rejects; that of class `ALIVE` rejects none. -/
theorem protocolViolationConditions : Obligations.ProtocolViolationConditions := by
  refine ⟨rfl, fun s c h => ?_⟩
  rw [step_violated_iff h]
  cases c with
  | alive => simp [decode]
  | status => rw [decode, decodeStatusReply_error_iff]; simp
  | state =>
    rw [decode, decodeStateReply_error_iff]
    by_cases hl : s.received.length = 14 <;> simp [hl]

/-! ### State replies -/

theorem configured_eq (f : Byte) : configured f = decide (f.toNat % 2 = 1) :=
  Nat.testBit_zero f.toNat

theorem exec_replyState (s : State) (f h t c e : Byte) (irq cmd : Word) :
    exec (.replyState f h t c irq cmd e) s =
      .next { s with
        rplFlags := f, rplHead := h, rplTail := t, rplCount := c, rplIrqCnt := irq, rplCmdCnt := cmd,
        rplEchoCount := e, rplKind := .state, cmdPhase := .none,
        results := s.results ++ [.state f (decide (f.toNat % 2 = 1)) h t c irq cmd e] } := by
  rw [← configured_eq]; rfl

/-- Settles O40: the counters are `UBE32` of their bytes. -/
theorem stateReplyDecodes : Obligations.StateReplyDecodes := by
  refine ⟨exec_replyState, fun s f h t c e i3 i2 i1 i0 c3 c2 c1 c0 hs hr => ?_, fun s hs hbad => ?_⟩
  · refine ⟨ube32 i3 i2 i1 i0, ube32 c3 c2 c1 c0, ube32_toNat .., ube32_toNat .., ?_⟩
    have hd : decode s.params (.reply .state) s.received =
        .ok (.replyState f h t c (ube32 i3 i2 i1 i0) (ube32 c3 c2 c1 c0) e) := by rw [hr]; rfl
    rw [step_reply hs hd, exec_replyState]
  · exact (step_violated_iff hs).mpr (decodeStateReply_error_iff.mpr hbad)

/-! ### The alive test -/

theorem aliveAnswer_eq (q : List Byte) : aliveAnswer q = decide (q = [0x41]) :=
  beq_eq_decide q [0x41]

theorem exec_replyAlive (s : State) (q : List Byte) :
    exec (.replyAlive q) s =
      .next { s with
        rplAlive := decide (q = [0x41]), rplKind := .alive, cmdPhase := .none,
        results := s.results ++ [.alive (decide (q = [0x41]))] } := by
  rw [← aliveAnswer_eq]; rfl

/-- An exhausted transaction reads as the empty reply in class `ALIVE` and returns `Exhausted` in any other (R280, R281). -/
theorem fetchReply_exhausted {s : State} (htag : s.resTag = .exhausted) :
    fetchReply s =
      if replyClass s.params s.curOp = .alive then .run (.replyAlive []) s
      else .act (.next { s with cmdPhase := .none, results := s.results ++ [.exhausted] }) := by
  rw [fetchReply, htag]
  rfl

/-- Settles O38: whatever the payload it is a reply of the class, and the exhausted command reads as the empty one. -/
theorem aliveReplyIsAnAnswer : Obligations.AliveReplyIsAnAnswer := by
  refine ⟨exec_replyAlive, fun s hs => ?_, fun s hc hr htag hcls => ?_, fun _ => rfl⟩
  · rw [step_reply hs rfl, exec_replyAlive]
  · rw [step_fetchReply hc hr, fetchReply_exhausted htag, if_pos hcls]
    exact exec_replyAlive s []

/-! ### Commands whose transaction failed -/

/-- At the default parameters every byte but `T` and `Q` is of class `STATUS` (R106; D12, logs 12 and 21). -/
theorem replyClass_default {op : Byte} (ht : op ≠ opTest) (hq : op ≠ opQueryState) :
    replyClass defaultParams op = .status := by
  simp [replyClass, ht, hq, defaultParams, defaultClasses]

/-- Settles O42: the class by `replyClass_default`, the outcomes tag by tag. -/
theorem unsuccessfulCommandsReturn : Obligations.UnsuccessfulCommandsReturn := by
  refine ⟨fun op ht => ?_, fun s hc hr => ⟨fun htag => step_fatal_reply hc hr htag, fun htag hcls => ?_⟩⟩
  · by_cases hq : op = opQueryState
    · rw [hq]; decide
    · rw [replyClass_default ht hq]; nofun
  · rw [step_fetchReply hc hr, fetchReply_exhausted htag, if_neg hcls]
    rfl

end Sys2Proof.Machine
end

section
/-! PROOF. The monitoring functions (R287, R288): `CounterDelta`, `CounterRate`. -/

namespace Sys2Proof.Machine

theorem delta_toNat_of_le {c1 c2 : Word} (h : c1.toNat ≤ c2.toNat) : (delta c1 c2).toNat = c2.toNat - c1.toNat := by
  rw [delta, if_pos h, BitVec.toNat_ofNat, Nat.mod_eq_of_lt (by omega)]

theorem delta_toNat_of_lt {c1 c2 : Word} (h : c2.toNat < c1.toNat) :
    (delta c1 c2).toNat = c2.toNat + 2 ^ 32 - c1.toNat := by
  rw [delta, if_neg (by omega), BitVec.toNat_ofNat, Nat.mod_eq_of_lt (by omega)]

/-- In either order of the counters the difference is the one modulo `2^32` (R287). -/
theorem delta_eq_sub (c1 c2 : Word) : delta c1 c2 = c2 - c1 := by
  apply BitVec.eq_of_toNat_eq
  rcases Nat.lt_or_ge c2.toNat c1.toNat with h | h
  · rw [delta_toNat_of_lt h, BitVec.toNat_sub_of_lt h]; omega
  · rw [delta_toNat_of_le h, BitVec.toNat_sub_of_le h]

/-- Settles O54, branch by branch; the corner values by the subtraction. -/
theorem counterDelta : Obligations.CounterDelta := by
  refine ⟨fun c1 c2 => ⟨delta_toNat_of_le, delta_toNat_of_lt, delta_eq_sub c1 c2⟩, fun c => ?_, ?_⟩
  · exact (delta_eq_sub c c).trans (BitVec.sub_self c)
  · decide

/-- For positive seconds the rate is the quotient (R288). -/
theorem rate_of_pos {x : Rat} (h : 0 < x) (c1 c2 : Word) : rate c1 c2 x = some (((delta c1 c2).toNat : Rat) / x) :=
  if_pos h

/-- Settles O55: the test of the seconds decides; the example is 21 over 3. -/
theorem counterRate : Obligations.CounterRate := by
  refine ⟨fun c1 c2 x h => rate_of_pos h c1 c2, fun c1 c2 x h => if_neg h.not_gt, ?_⟩
  have hd : (delta 0xFFFFFFF0 5).toNat = 21 := by decide
  rw [rate_of_pos (by norm_num), hd]
  norm_num

end Sys2Proof.Machine
end

section
/-! PROOF. The worked examples of 43_commands, written out byte by byte: `WorkedExampleWordsDecode`. -/

namespace Sys2Proof

/-- Settles O4; each decoding is of fixed bytes, the frame's checksum included, and is computed. -/
theorem workedExampleWordsDecode : Obligations.WorkedExampleWordsDecode := by
  unfold Obligations.WorkedExampleWordsDecode; decide

end Sys2Proof
end

section
/-! PROOF. `SESSION_CLOSE` as a step of its own (R207): `SessionCloseCases`. -/

namespace Sys2Proof.Machine

theorem State.sessionClose_of_closed {s : State} (h : s.sessState = .closed) : s.sessionClose = s.give .closed :=
  if_pos h

theorem State.sessionClose_of_ne_closed {s : State} (h : s.sessState ≠ .closed) :
    s.sessionClose = ({ s with sessState := .closed }.ask [.closeLine]).give .closed :=
  if_neg h

/-- With no reply due, `SESSION_CLOSE` is served at once, whatever the transaction does (R207). -/
theorem step_sessionClose {s : State} {rest : List HostEvent} (hs : s.schedule = .sessionClose :: rest)
    (hc : s.cmdPhase ≠ .replyDue) : step s = .next { s with schedule := rest }.sessionClose :=
  step_event hc hs

/-- Settles O45, by the two cases of `sessionClose`. -/
theorem sessionCloseCases : Obligations.SessionCloseCases := by
  intro s rest hs hc
  have hstep := step_sessionClose hs hc
  exact ⟨fun h => hstep.trans (congrArg Host.Outcome.next (State.sessionClose_of_closed h)),
    fun h => hstep.trans (congrArg Host.Outcome.next (State.sessionClose_of_ne_closed h))⟩

end Sys2Proof.Machine
end
